-- ==== Sys2Proof/Word.lean ====
section
/-! DEFINITION. The port widths of the CAN-FD frame decoder (spec/00_scope.md R8, spec/10_state.md R27, R31) and the two
records its ports carry: the raw frame (R30) and the decoded frame (R35). -/

namespace Sys2Proof

/-- One payload byte (spec/20_memory.md R51). -/
abbrev Byte := BitVec 8
/-- An arbitration ID: `ID_W` = 32 (R8). -/
abbrev CanId := BitVec 32
/-- What stands on a port whose width is a parameter of R8: the width and that many bits. A block's widths are in `Cfg`, and
`RawIn.fits` says that a record has them (log 1). -/
structure PortWord where
  width : Nat
  bits  : BitVec width
deriving DecidableEq, Repr

/-- The flag word: `FLAGS_W` bits, 8 in format FLAGS8 (R8, spec/30_encoding.md R74). -/
abbrev Flags := PortWord
/-- The Data Length Code: `DLC_W` bits, 8 in format DLC8 (R8, spec/30_encoding.md R72). -/
abbrev Dlc := PortWord
/-- The timestamp: `TS_W` = 64 (R8). -/
abbrev Ticks := BitVec 64
/-- A payload length: `LEN_W` = 7 (R8). -/
abbrev Len := BitVec 7
/-- A time in tenths of a second: `DSEC_W` = 48 (R8). -/
abbrev Dsec := BitVec 48
/-- The byte-enable mask: one bit for each of the `PAYLOAD_CAP` bytes (R31). -/
abbrev ByteEn := BitVec 64

/-- `PAYLOAD_CAP` (R8). -/
abbrev payloadCap : Nat := 64

/-- The payload buffer: `PAYLOAD_CAP` bytes, byte 0 first (spec/20_memory.md R51). The block never combines them into a
wider value (R53), so they are held as bytes. -/
abbrev Payload := Vector Byte 64

/-- The payload whose byte `i` is `f i`. -/
def Payload.ofBytes (f : Nat → Byte) : Payload := Vector.ofFn fun i : Fin 64 => f i

/-- Byte `i` of the payload, for an index that may be out of range (then 0; the block forms no such index, R55). -/
def Payload.byte (p : Payload) (i : Nat) : Byte := p[i]?.getD 0

/-- The input record of the block (spec/10_state.md R30). Every value of every field is admitted (R30, R80). -/
structure RawIn where
  id      : CanId
  flags   : Flags
  dlc     : Dlc
  ts      : Ticks
  payload : Payload
deriving DecidableEq, Repr

/-- The output record of the block (spec/10_state.md R35). -/
structure DecOut where
  type    : BitVec 2
  id      : CanId
  len     : Len
  dsec    : Dsec
  dataRR  : Bool
  byteEn  : ByteEn
  payload : Payload
deriving DecidableEq, Repr, Inhabited

end Sys2Proof
end

