-- ==== Sys2Proof/Config.lean ====
section
/-! DEFINITION. The elaboration-time parameters of the block (spec/00_scope.md R8) and the free values, which the spec
leaves open and nothing here fixes. -/

namespace Sys2Proof

/-- `HEX_BYTE_PAD` (R8): how the host renders a payload byte (spec/49_reporter_rendering.md R225). -/
inductive HexBytePad where
  | twoDigit
  | minimal
deriving DecidableEq, Repr

/-- The parameters of R8 that have more than one legal value. -/
structure Cfg where
  /-- `FLAGS_W`: the width of in.FLAGS (spec/10_state.md R27). -/
  flagsW     : Nat
  /-- `DLC_W`: the width of in.DLC (spec/10_state.md R27). -/
  dlcW       : Nat
  /-- `RTR_BIT`: the bit of in.FLAGS that is REMOTE_REQUEST (R74). -/
  rtrBit     : Nat
  /-- `EXT_BIT`: the bit of in.FLAGS that is EXTENDED (R74). -/
  extBit     : Nat
  /-- `EXT_ID_MASK`: the mask of the extended domain (R142). -/
  extIdMask  : CanId
  /-- `LATENCY`: how many slots a result takes to reach the output ports (R32). -/
  latency    : Nat
  /-- `HEX_BYTE_PAD`: host rendering only (R225). -/
  hexBytePad : HexBytePad
deriving DecidableEq, Repr

namespace Config

/-- `STD_ID_MASK` (R8), its one legal value. -/
def stdIdMask : CanId := 0x7FF#32
/-- `EXT_ID_MASK` as this hardware takes it (R8, R142): the full ID passes. -/
def extIdMaskFull : CanId := 0xFFFFFFFF#32
/-- The other legal `EXT_ID_MASK` (R8, R142): 29 bits pass. -/
def extIdMask29 : CanId := 0x1FFFFFFF#32
/-- `TICK_HZ` (R8). -/
def tickHz : Nat := 1000000
/-- `TS_DIV` = `TICK_HZ` / 10 (R8): ticks in a tenth of a second. -/
def tsDiv : Nat := tickHz / 10

/-- Free value: what the output ports other than VALID hold for a result that is not valid (spec/10_state.md R33 "an
unspecified value", R36; U9, U11). The arguments are the slot's number and the pipeline place. Log 7. -/
opaque freeOut : Nat → Nat → DecOut
/-- Free value: the bits of an input port other than VALID on an idle slot (spec/10_state.md R29 "don't-care"). The arguments
are the port's width, the slot's number and which port, or which payload byte, it is. Log 8. -/
opaque freeIn : (w : Nat) → Nat → Nat → BitVec w
/-- Free value: a payload byte the adapter did not physically receive (spec/20_memory.md R52 "any value, no law, per
transaction"). The arguments are the slot's number and the byte's index. Log 9. -/
opaque freeByte : Nat → Nat → Byte

end Config

namespace Cfg

/-- The value column of R8: the parameters this hardware takes. -/
def thisHardware : Cfg :=
  { flagsW := 8, dlcW := 8, rtrBit := 0, extBit := 1, extIdMask := Config.extIdMaskFull, latency := 0, hexBytePad := .twoDigit }

/-- The legal-values column of R8. -/
def legal (c : Cfg) : Bool :=
  decide (2 ≤ c.flagsW) && decide (4 ≤ c.dlcW) &&
    decide (c.rtrBit < c.flagsW) && decide (c.extBit < c.flagsW) && decide (c.rtrBit ≠ c.extBit) &&
    (c.extIdMask == Config.extIdMaskFull || c.extIdMask == Config.extIdMask29)

end Cfg

/-- The record has the block's port widths: it is a `RawIn` of R30 (log 1). -/
def RawIn.fits (c : Cfg) (r : RawIn) : Bool := r.flags.width == c.flagsW && r.dlc.width == c.dlcW

end Sys2Proof
end

