-- ==== Sys2Proof/Machine/Operands.lean ====
section
/-! DEFINITION. The operands every operation uses, decoded once per transaction (spec/30_encoding.md R75). All are unsigned
and used whole, at any width of in.FLAGS and in.DLC (spec/00_scope.md R8); none is extended, scaled or shifted. -/

namespace Sys2Proof.Machine

/-- `ext`: "is extended" (R75). -/
def extOf (c : Cfg) (r : RawIn) : Bool := r.flags.bits.getLsbD c.extBit

/-- `rtr`: "is remote" (R75). -/
def rtrOf (c : Cfg) (r : RawIn) : Bool := r.flags.bits.getLsbD c.rtrBit

/-- `dlc ≤ 15`, which is `hi == 0` (spec/30_encoding.md R73); `hi` is every bit above bit 3 (D26). -/
def dlcInRange {dw : Nat} (d : BitVec dw) : Bool := (d >>> 4) == 0#dw

/-- `lo`, the table index (R73). -/
def dlcLow {dw : Nat} (d : BitVec dw) : BitVec 4 := d.extractLsb' 0 4

/-- `payload[i]` (R75, spec/20_memory.md R51). -/
def payloadOf (r : RawIn) (i : Nat) : Byte := r.payload.byte i

end Sys2Proof.Machine
end

