-- ==== Sys2Proof/Syntax.lean ====
section
/-! DEFINITION. The operations of the block: one constructor of `Instr` for each row of spec/opcode_table.json
(spec/30_encoding.md R84), carrying the input fields that its operation reads (R84's column "reads"). -/

namespace Sys2Proof

/-- The operations of R84: the transaction itself and the five functions evaluated inside it. -/
inductive Op where
  | decode
  | classify
  | idFmt
  | dlcLen
  | tScale
  | dataSel
deriving DecidableEq, Repr

/-- The five operations that run in parallel on every transaction (R84, R102). -/
def Op.parallel : List Op := [.classify, .idFmt, .dlcLen, .tScale, .dataSel]

/-- One case of one operation, with the fields it reads. -/
inductive Instr where
  /-- DECODE (spec/40_decode.md R100): one raw frame. -/
  | decode (raw : RawIn)
  /-- CLASSIFY, the four cases of `(ext, rtr)` (spec/41_classifier.md R120). -/
  | classifyStd (flags : Flags)
  | classifyExt (flags : Flags)
  | classifyRtrStd (flags : Flags)
  | classifyRtrExt (flags : Flags)
  /-- IDFMT, the two addressing domains (spec/42_id_formatter.md R140). -/
  | idFmtStd (flags : Flags) (id : CanId)
  | idFmtExt (flags : Flags) (id : CanId)
  /-- DLCLEN, the sixteen table entries (spec/43_dlc_lut.md R160). -/
  | dlc0 (dlc : Dlc)
  | dlc1 (dlc : Dlc)
  | dlc2 (dlc : Dlc)
  | dlc3 (dlc : Dlc)
  | dlc4 (dlc : Dlc)
  | dlc5 (dlc : Dlc)
  | dlc6 (dlc : Dlc)
  | dlc7 (dlc : Dlc)
  | dlc8 (dlc : Dlc)
  | dlc9 (dlc : Dlc)
  | dlc10 (dlc : Dlc)
  | dlc11 (dlc : Dlc)
  | dlc12 (dlc : Dlc)
  | dlc13 (dlc : Dlc)
  | dlc14 (dlc : Dlc)
  | dlc15 (dlc : Dlc)
  /-- DLCLEN, the four rows of `dlc ≥ 16` (spec/43_dlc_lut.md R161). -/
  | dlcDegraded10 (dlc : Dlc)
  | dlcDegraded20 (dlc : Dlc)
  | dlcDegraded40 (dlc : Dlc)
  | dlcDegraded80 (dlc : Dlc)
  /-- TSCALE (spec/44_timestamp_scaler.md R180). -/
  | tScale (ts : Ticks)
  /-- DATASEL of a data frame and of a remote frame (spec/45_data_select.md R200 to R202). -/
  | dataSelBytes (flags : Flags) (dlc : Dlc) (payload : Payload)
  | dataSelRr (flags : Flags) (dlc : Dlc) (payload : Payload)
deriving DecidableEq, Repr

/-- The operation a case belongs to (R84). -/
def Instr.op : Instr → Op
  | .decode _ => .decode
  | .classifyStd _ => .classify
  | .classifyExt _ => .classify
  | .classifyRtrStd _ => .classify
  | .classifyRtrExt _ => .classify
  | .idFmtStd _ _ => .idFmt
  | .idFmtExt _ _ => .idFmt
  | .dlc0 _ => .dlcLen
  | .dlc1 _ => .dlcLen
  | .dlc2 _ => .dlcLen
  | .dlc3 _ => .dlcLen
  | .dlc4 _ => .dlcLen
  | .dlc5 _ => .dlcLen
  | .dlc6 _ => .dlcLen
  | .dlc7 _ => .dlcLen
  | .dlc8 _ => .dlcLen
  | .dlc9 _ => .dlcLen
  | .dlc10 _ => .dlcLen
  | .dlc11 _ => .dlcLen
  | .dlc12 _ => .dlcLen
  | .dlc13 _ => .dlcLen
  | .dlc14 _ => .dlcLen
  | .dlc15 _ => .dlcLen
  | .dlcDegraded10 _ => .dlcLen
  | .dlcDegraded20 _ => .dlcLen
  | .dlcDegraded40 _ => .dlcLen
  | .dlcDegraded80 _ => .dlcLen
  | .tScale _ => .tScale
  | .dataSelBytes _ _ _ => .dataSel
  | .dataSelRr _ _ _ => .dataSel

end Sys2Proof
end

