-- ==== Sys2Proof/Machine/State.lean ====
section
/-! DEFINITION. The state of the block and of the host loop around it, as plain data; the reasons a step can stop; the
state after reset (spec/10_state.md, spec/60_exceptions.md R315 to R320, spec/70_reset_and_hazards.md R340). -/

namespace Sys2Proof.Machine

/-- Why the machine stops with a fault. It has no constructor: "the block raises no exception" and "has no exception cause
codes" (spec/60_exceptions.md R300). Raised by nobody; an empty type is safe, for nothing can stop a run. -/
inductive Fault where
deriving DecidableEq, Repr

/-- Why an instruction has no meaning. -/
inductive Refusal where
  /-- Raised only by an arm of `exec` for an instruction that has no meaning yet. No arm raises it: every row of the opcode
  table is modelled. Safe: a refusal would stop the run, never give it a wrong result. -/
  | notModelled (mnemonic : String)
deriving DecidableEq, Repr

/-- The input ports (spec/10_state.md R27): in.VALID and the raw frame beside it. -/
structure InPorts where
  valid : Bool
  raw   : RawIn
deriving DecidableEq, Repr

/-- One place of the pipeline: a valid bit and the result of one transaction (spec/10_state.md R26). While `valid` is false
the data is unspecified (R33, R36). -/
structure Stage where
  valid : Bool
  data  : DecOut
deriving DecidableEq, Repr

/-- The source's raw frame as the Channel Adapter has it (spec/00_scope.md R13): the payload bytes it physically received,
byte 0 first. The buffer's other bytes are undefined (spec/20_memory.md R52). Flags and DLC are on words of the port's
width (R8; log 1). -/
structure RawFrame where
  id       : CanId
  flags    : Flags
  dlc      : Dlc
  ts       : Ticks
  received : List Byte
deriving DecidableEq, Repr

/-- What the Channel Adapter yields on a request (spec/60_exceptions.md R315). The error code is an opaque value, never
decoded (R302, R316). -/
inductive AdapterResult where
  | frame (f : RawFrame)
  | empty
  | error (code : Nat)
deriving DecidableEq, Repr

/-- What the host does in one slot: the level of the reset signal (R319), and the adapter result it got, if any. `none` is a
slot in which the adapter yields nothing, since "the external polling call may block" (R318). -/
structure HostSlot where
  rst    : Bool
  result : Option AdapterResult
deriving DecidableEq, Repr

/-- A result the host has requested and whose Reporter event is still to come (R316, R320; log 13). -/
inductive Awaited where
  | transaction
  | empty
  | error (code : Nat)
deriving DecidableEq, Repr

/-- What the Reporter is given (R316). -/
inductive Event where
  | frame (out : DecOut)
  | empty
  | error (code : Nat)
deriving DecidableEq, Repr

/-- The machine between two slots. -/
structure State where
  /-- The parameters of spec/00_scope.md R8, constant for the block's lifetime (spec/10_state.md R24). -/
  cfg      : Cfg
  /-- The reset signal in the current slot (spec/60_exceptions.md R319). -/
  rst      : Bool
  /-- The input ports in the current slot (spec/10_state.md R27). -/
  inp      : InPorts
  /-- What the block drives for the transaction of the current slot. With LATENCY = 0 these are the output ports. -/
  datapath : Stage
  /-- The pipeline registers behind it, newest first: LATENCY of them (spec/10_state.md R26). -/
  pipe     : List Stage
  /-- What the host does in the coming slots, next first. -/
  script   : List HostSlot
  /-- The results whose Reporter event is to come, oldest first. -/
  awaiting : List Awaited
  /-- The Reporter events so far, oldest first: the observation of a run (spec/60_exceptions.md R320). -/
  reporter : List Event
  /-- The model's own counter: the number of the coming slot, to which the free values are applied (log 7). -/
  draws    : Nat
deriving DecidableEq, Repr

/-- The output record in which every port is 0: what `State.reset` names for ports that the spec leaves unspecified while
VALID is 0 (log 10). -/
def DecOut.blank : DecOut :=
  { type := 0, id := 0, len := 0, dsec := 0, dataRR := false, byteEn := 0, payload := Vector.ofFn fun _ => 0 }

/-- The machine right after reset (spec/10_state.md R36, spec/70_reset_and_hazards.md R340): the parameters this hardware
takes, no valid bit set, no pipeline register since LATENCY is 0, nothing presented and nothing reported. Port values
beside the valid bits are named by log 10. -/
def State.reset : State :=
  { cfg := Cfg.thisHardware
    rst := false
    inp := ⟨false, { id := 0, flags := ⟨8, 0⟩, dlc := ⟨8, 0⟩, ts := 0, payload := Vector.ofFn fun _ => 0 }⟩
    datapath := ⟨false, DecOut.blank⟩
    pipe := []
    script := []
    awaiting := []
    reporter := []
    draws := 0 }

end Sys2Proof.Machine
end

