-- ==== Sys2Proof/Machine/Ops.lean ====
section
/-! DEFINITION. The named operations on the state: driving one output of the current transaction (`out.F <- v` of
spec/00_scope.md R11), the output ports, and the clocking and reset of the pipeline (spec/10_state.md R26, R32;
spec/70_reset_and_hazards.md R340, R342). There is no memory, and no exception to take or return from
(spec/20_memory.md R50, spec/60_exceptions.md R300, R305, R306). -/

namespace Sys2Proof.Machine

/-! ## Driving the outputs of the current transaction -/

/-- `out.TYPE <- v`. -/
def State.driveType (v : BitVec 2) (s : State) : State :=
  { s with datapath := { s.datapath with data := { s.datapath.data with type := v } } }

/-- `out.ID <- v`. -/
def State.driveId (v : CanId) (s : State) : State :=
  { s with datapath := { s.datapath with data := { s.datapath.data with id := v } } }

/-- `out.LEN <- v`. -/
def State.driveLen (v : Len) (s : State) : State :=
  { s with datapath := { s.datapath with data := { s.datapath.data with len := v } } }

/-- `out.DSEC <- v`. -/
def State.driveDsec (v : Dsec) (s : State) : State :=
  { s with datapath := { s.datapath with data := { s.datapath.data with dsec := v } } }

/-- `out.DATA_RR <- v`. -/
def State.driveDataRR (v : Bool) (s : State) : State :=
  { s with datapath := { s.datapath with data := { s.datapath.data with dataRR := v } } }

/-- `out.BYTE_EN <- v`. -/
def State.driveByteEn (v : ByteEn) (s : State) : State :=
  { s with datapath := { s.datapath with data := { s.datapath.data with byteEn := v } } }

/-- `out.PAYLOAD <- v`. -/
def State.drivePayload (v : Payload) (s : State) : State :=
  { s with datapath := { s.datapath with data := { s.datapath.data with payload := v } } }

/-- Every output port at once, and `out.VALID <- 1`: a transaction drives its whole output record or none of it
(spec/20_memory.md R56). -/
def State.driveAll (o : DecOut) (s : State) : State := { s with datapath := ⟨true, o⟩ }

/-! ## The output ports -/

/-- The output ports: the oldest result, LATENCY places behind the datapath (spec/10_state.md R32). -/
def State.out (s : State) : Stage := s.pipe.getLast?.getD s.datapath

/-- What the host reads: the outputs, only while out.VALID = 1 (spec/10_state.md R33; U9 "refuse to read"). -/
def State.readOut (s : State) : Option DecOut := if s.out.valid then some s.out.data else none

/-! ## Clock and reset of the pipeline -/

/-- A place that holds no transaction; its data is unspecified (spec/10_state.md R33, R36; log 7). -/
def bubble (slot place : Nat) : Stage := ⟨false, Config.freeOut slot place⟩

/-- Reset acts in this slot: it acts only on the pipeline that exists when LATENCY > 0 (spec/70_reset_and_hazards.md R340). -/
def State.pipeReset (s : State) : Bool := s.rst && decide (0 < s.cfg.latency)

/-- One slot passes: every result moves one place, and the datapath holds none yet (spec/10_state.md R26, R32). -/
def State.shift (s : State) : State :=
  { s with
    datapath := bubble s.draws 0
    pipe := (s.datapath :: s.pipe).take s.cfg.latency
    draws := s.draws + 1 }

/-- The slot of a reset: every valid bit becomes 0, so every transaction in flight is discarded
(spec/70_reset_and_hazards.md R340); the data registers hold unspecified values (spec/10_state.md R36). -/
def State.clearPipe (s : State) : State :=
  { s with
    datapath := bubble s.draws 0
    pipe := (List.range s.cfg.latency).map fun k => bubble s.draws (k + 1)
    draws := s.draws + 1 }

/-- The host gives up the transactions a reset discards: they produce no output (spec/70_reset_and_hazards.md R340; log 12). -/
def State.forgetTransactions (s : State) : State :=
  { s with awaiting := s.awaiting.filter (· != .transaction) }

/-- The pipeline at the start of a slot. -/
def State.clock (s : State) : State :=
  if s.pipeReset then s.clearPipe.forgetTransactions else s.shift

end Sys2Proof.Machine
end

