-- ==== Sys2Proof/Machine/Classify.lean ====
section
/-! DEFINITION. CLASSIFY, the frame-type classifier (spec/41_classifier.md), and its four cases. -/

namespace Sys2Proof.Machine

/-- The frame type, in the source's order, first match wins (R120). -/
def classify (ext rtr : Bool) : BitVec 2 :=
  if ext && rtr then 0b11#2
  else if ext then 0b01#2
  else if !ext && rtr then 0b10#2
  else 0b00#2

/-- CLASSIFY_STD: out.TYPE is 0b00, "Standard Frame" (R120, case 4). -/
def execClassifyStd (_flags : Flags) (s : State) : Host.Outcome State Fault Refusal := .next (s.driveType 0b00#2)

/-- CLASSIFY_EXT: out.TYPE is 0b01, "Extended Frame" (R120, case 2). -/
def execClassifyExt (_flags : Flags) (s : State) : Host.Outcome State Fault Refusal := .next (s.driveType 0b01#2)

/-- CLASSIFY_RTR_STD: out.TYPE is 0b10, "RTR Frame (Standard ID)" (R120, case 3). -/
def execClassifyRtrStd (_flags : Flags) (s : State) : Host.Outcome State Fault Refusal := .next (s.driveType 0b10#2)

/-- CLASSIFY_RTR_EXT: out.TYPE is 0b11, "RTR Frame (Extended ID)" (R120, case 1). -/
def execClassifyRtrExt (_flags : Flags) (s : State) : Host.Outcome State Fault Refusal := .next (s.driveType 0b11#2)

end Sys2Proof.Machine
end

