-- ==== Sys2Proof/Machine/DlcLut.lean ====
section
/-! DEFINITION. DLCLEN, the DLC lookup table (spec/43_dlc_lut.md), and its rows. -/

namespace Sys2Proof.Machine

/-- The table of R160, every entry normative. -/
def dlcTable : Vector Len 16 := #v[0, 1, 2, 3, 4, 5, 6, 7, 8, 12, 16, 20, 24, 32, 48, 64]

/-- `LUT[lo]` (R160). -/
def dlcEntry (lo : BitVec 4) : Len := dlcTable[lo.toNat]'lo.isLt

/-- The byte count of a DLC: the table for 0 to 15, and 0 for every degraded value (R160, R161). The whole value is compared
(D26), at any width. -/
def dlcLen {dw : Nat} (d : BitVec dw) : Len :=
  if dlcInRange d then dlcEntry (dlcLow d) else 0

/-- DLC_0 (R160). -/
def execDlc0 (_dlc : Dlc) (s : State) : Host.Outcome State Fault Refusal := .next (s.driveLen 0#7)
/-- DLC_1 (R160). -/
def execDlc1 (_dlc : Dlc) (s : State) : Host.Outcome State Fault Refusal := .next (s.driveLen 1#7)
/-- DLC_2 (R160). -/
def execDlc2 (_dlc : Dlc) (s : State) : Host.Outcome State Fault Refusal := .next (s.driveLen 2#7)
/-- DLC_3 (R160). -/
def execDlc3 (_dlc : Dlc) (s : State) : Host.Outcome State Fault Refusal := .next (s.driveLen 3#7)
/-- DLC_4 (R160). -/
def execDlc4 (_dlc : Dlc) (s : State) : Host.Outcome State Fault Refusal := .next (s.driveLen 4#7)
/-- DLC_5 (R160). -/
def execDlc5 (_dlc : Dlc) (s : State) : Host.Outcome State Fault Refusal := .next (s.driveLen 5#7)
/-- DLC_6 (R160). -/
def execDlc6 (_dlc : Dlc) (s : State) : Host.Outcome State Fault Refusal := .next (s.driveLen 6#7)
/-- DLC_7 (R160). -/
def execDlc7 (_dlc : Dlc) (s : State) : Host.Outcome State Fault Refusal := .next (s.driveLen 7#7)
/-- DLC_8 (R160), the last entry that is the DLC itself. -/
def execDlc8 (_dlc : Dlc) (s : State) : Host.Outcome State Fault Refusal := .next (s.driveLen 8#7)
/-- DLC_9 (R160). -/
def execDlc9 (_dlc : Dlc) (s : State) : Host.Outcome State Fault Refusal := .next (s.driveLen 12#7)
/-- DLC_10 (R160). -/
def execDlc10 (_dlc : Dlc) (s : State) : Host.Outcome State Fault Refusal := .next (s.driveLen 16#7)
/-- DLC_11 (R160). -/
def execDlc11 (_dlc : Dlc) (s : State) : Host.Outcome State Fault Refusal := .next (s.driveLen 20#7)
/-- DLC_12 (R160). -/
def execDlc12 (_dlc : Dlc) (s : State) : Host.Outcome State Fault Refusal := .next (s.driveLen 24#7)
/-- DLC_13 (R160). -/
def execDlc13 (_dlc : Dlc) (s : State) : Host.Outcome State Fault Refusal := .next (s.driveLen 32#7)
/-- DLC_14 (R160). -/
def execDlc14 (_dlc : Dlc) (s : State) : Host.Outcome State Fault Refusal := .next (s.driveLen 48#7)
/-- DLC_15 (R160). -/
def execDlc15 (_dlc : Dlc) (s : State) : Host.Outcome State Fault Refusal := .next (s.driveLen 64#7)

/-- DLC_DEGRADED_10: dlc 16 to 31 (R161), a value, not an error. -/
def execDlcDegraded10 (_dlc : Dlc) (s : State) : Host.Outcome State Fault Refusal := .next (s.driveLen 0#7)
/-- DLC_DEGRADED_20: dlc 32 to 63 (R161). -/
def execDlcDegraded20 (_dlc : Dlc) (s : State) : Host.Outcome State Fault Refusal := .next (s.driveLen 0#7)
/-- DLC_DEGRADED_40: dlc 64 to 127 (R161). -/
def execDlcDegraded40 (_dlc : Dlc) (s : State) : Host.Outcome State Fault Refusal := .next (s.driveLen 0#7)
/-- DLC_DEGRADED_80: dlc 128 to 255 (R161). -/
def execDlcDegraded80 (_dlc : Dlc) (s : State) : Host.Outcome State Fault Refusal := .next (s.driveLen 0#7)

end Sys2Proof.Machine
end

