-- ==== Sys2Proof/Machine/DataSel.lean ====
section
/-! DEFINITION. DATASEL, the remote short-circuit and the payload window (spec/45_data_select.md), and its two cases. -/

namespace Sys2Proof.Machine

/-- The byte enables: the first `len` bytes of a data frame, none of a remote frame; as a number `2^len − 1` (R201). -/
def byteEn (rtr : Bool) (len : Len) : ByteEn :=
  if rtr then 0#64 else BitVec.ofNat 64 (2 ^ len.toNat - 1)

/-- DATASEL_BYTES: a data frame shows the first `dlcLen dlc` bytes, whatever the adapter received (R201, R203), and the
payload passes through (R202). -/
def execDataSelBytes (_flags : Flags) (dlc : Dlc) (payload : Payload) (s : State) :
    Host.Outcome State Fault Refusal :=
  .next (((s.driveDataRR false).driveByteEn (byteEn false (dlcLen dlc.bits))).drivePayload payload)

/-- DATASEL_RR: a remote frame shows "Remote Request" and no byte (R200, R201); the payload passes through all the same
(R202). -/
def execDataSelRr (_flags : Flags) (dlc : Dlc) (payload : Payload) (s : State) :
    Host.Outcome State Fault Refusal :=
  .next (((s.driveDataRR true).driveByteEn (byteEn true (dlcLen dlc.bits))).drivePayload payload)

end Sys2Proof.Machine
end

