-- ==== Sys2Proof/Machine/IdFmt.lean ====
section
/-! DEFINITION. IDFMT, the ID formatter (spec/42_id_formatter.md), and its two cases. -/

namespace Sys2Proof.Machine

/-- The ID masked by its addressing domain (R140). -/
def idFmt (c : Cfg) (ext : Bool) (id : CanId) : CanId :=
  if ext then id &&& c.extIdMask else id &&& Config.stdIdMask

/-- IDFMT_STD: the standard mask is always applied (R140, R141). -/
def execIdFmtStd (_flags : Flags) (id : CanId) (s : State) : Host.Outcome State Fault Refusal :=
  .next (s.driveId (id &&& Config.stdIdMask))

/-- IDFMT_EXT: the mask of the extended domain, a parameter (R140, R142; spec/90_conflicts.md C3). -/
def execIdFmtExt (_flags : Flags) (id : CanId) (s : State) : Host.Outcome State Fault Refusal :=
  .next (s.driveId (id &&& s.cfg.extIdMask))

end Sys2Proof.Machine
end

