-- ==== Sys2Proof/Machine/TScale.lean ====
section
/-! DEFINITION. TSCALE, the timestamp scaler (spec/44_timestamp_scaler.md). -/

namespace Sys2Proof.Machine

/-- Ticks to tenths of a second, rounded half up: exact arithmetic on naturals, then 48 bits (R180; no value overflows
them, R183). -/
def tsScale (ts : Ticks) : Dsec :=
  BitVec.ofNat 48
    (ts.toNat / Config.tsDiv + if ts.toNat % Config.tsDiv ≥ Config.tsDiv / 2 then 1 else 0)

/-- TSCALE (R180), on every transaction. -/
def execTScale (ts : Ticks) (s : State) : Host.Outcome State Fault Refusal := .next (s.driveDsec (tsScale ts))

end Sys2Proof.Machine
end

