-- ==== Sys2Proof/Machine/Transaction.lean ====
section
/-! DEFINITION. DECODE, the frame transaction (spec/40_decode.md). -/

namespace Sys2Proof.Machine

/-- The block's whole function `decode(cfg, raw)` (R100), total (R101), at every `FLAGS_W` and `DLC_W`. -/
def decodeFrame (c : Cfg) (r : RawIn) : DecOut :=
  let ext := extOf c r
  let rtr := rtrOf c r
  let len := dlcLen r.dlc.bits
  { type := classify ext rtr
    id := idFmt c ext r.id
    len := len
    dsec := tsScale r.ts
    dataRR := rtr
    byteEn := byteEn rtr len
    payload := r.payload }

/-- DECODE: drives every output port, and out.VALID, from the one record on the input ports (R100, spec/10_state.md R28). -/
def execDecode (raw : RawIn) (s : State) : Host.Outcome State Fault Refusal :=
  .next (s.driveAll (decodeFrame s.cfg raw))

end Sys2Proof.Machine
end

