-- ==== Sys2Proof/Machine/Dispatch.lean ====
section
/-! DEFINITION. One arm for each constructor of Instr, each one direct call of its meaning. -/

namespace Sys2Proof.Machine

def exec (i : Instr) (s : State) : Host.Outcome State Fault Refusal :=
  match i with
  | .decode raw => Sys2Proof.Machine.execDecode raw s
  | .classifyStd flags => Sys2Proof.Machine.execClassifyStd flags s
  | .classifyExt flags => Sys2Proof.Machine.execClassifyExt flags s
  | .classifyRtrStd flags => Sys2Proof.Machine.execClassifyRtrStd flags s
  | .classifyRtrExt flags => Sys2Proof.Machine.execClassifyRtrExt flags s
  | .idFmtStd flags id => Sys2Proof.Machine.execIdFmtStd flags id s
  | .idFmtExt flags id => Sys2Proof.Machine.execIdFmtExt flags id s
  | .dlc0 dlc => Sys2Proof.Machine.execDlc0 dlc s
  | .dlc1 dlc => Sys2Proof.Machine.execDlc1 dlc s
  | .dlc2 dlc => Sys2Proof.Machine.execDlc2 dlc s
  | .dlc3 dlc => Sys2Proof.Machine.execDlc3 dlc s
  | .dlc4 dlc => Sys2Proof.Machine.execDlc4 dlc s
  | .dlc5 dlc => Sys2Proof.Machine.execDlc5 dlc s
  | .dlc6 dlc => Sys2Proof.Machine.execDlc6 dlc s
  | .dlc7 dlc => Sys2Proof.Machine.execDlc7 dlc s
  | .dlc8 dlc => Sys2Proof.Machine.execDlc8 dlc s
  | .dlc9 dlc => Sys2Proof.Machine.execDlc9 dlc s
  | .dlc10 dlc => Sys2Proof.Machine.execDlc10 dlc s
  | .dlc11 dlc => Sys2Proof.Machine.execDlc11 dlc s
  | .dlc12 dlc => Sys2Proof.Machine.execDlc12 dlc s
  | .dlc13 dlc => Sys2Proof.Machine.execDlc13 dlc s
  | .dlc14 dlc => Sys2Proof.Machine.execDlc14 dlc s
  | .dlc15 dlc => Sys2Proof.Machine.execDlc15 dlc s
  | .dlcDegraded10 dlc => Sys2Proof.Machine.execDlcDegraded10 dlc s
  | .dlcDegraded20 dlc => Sys2Proof.Machine.execDlcDegraded20 dlc s
  | .dlcDegraded40 dlc => Sys2Proof.Machine.execDlcDegraded40 dlc s
  | .dlcDegraded80 dlc => Sys2Proof.Machine.execDlcDegraded80 dlc s
  | .tScale ts => Sys2Proof.Machine.execTScale ts s
  | .dataSelBytes flags dlc payload => Sys2Proof.Machine.execDataSelBytes flags dlc payload s
  | .dataSelRr flags dlc payload => Sys2Proof.Machine.execDataSelRr flags dlc payload s

end Sys2Proof.Machine
end

