-- ==== Sys2Proof/WellFormed.lean ====
section
/-! DEFINITION. When a case is the one its fields select: the match and mask of its row in spec/opcode_table.json, with the
flag rows' masks following RTR_BIT and EXT_BIT and the DLC rows' masks following DLC_W (spec/00_scope.md R8,
spec/30_encoding.md R74, R84). Matches and masks are numbers, as the table has them. -/

namespace Sys2Proof

/-- The number in which only bit `n` is set. -/
def flagMask (n : Nat) : Nat := 2 ^ n

/-- The field that selects the case: in.FLAGS for CLASSIFY, IDFMT and DATASEL, in.DLC for DLCLEN (R84). DECODE is selected
by in.VALID = 1, which every `Instr.decode` stands for; TSCALE has no selector. -/
def Instr.selector : Instr → Nat
  | .decode _ => 1
  | .classifyStd f => f.bits.toNat
  | .classifyExt f => f.bits.toNat
  | .classifyRtrStd f => f.bits.toNat
  | .classifyRtrExt f => f.bits.toNat
  | .idFmtStd f _ => f.bits.toNat
  | .idFmtExt f _ => f.bits.toNat
  | .dlc0 d => d.bits.toNat
  | .dlc1 d => d.bits.toNat
  | .dlc2 d => d.bits.toNat
  | .dlc3 d => d.bits.toNat
  | .dlc4 d => d.bits.toNat
  | .dlc5 d => d.bits.toNat
  | .dlc6 d => d.bits.toNat
  | .dlc7 d => d.bits.toNat
  | .dlc8 d => d.bits.toNat
  | .dlc9 d => d.bits.toNat
  | .dlc10 d => d.bits.toNat
  | .dlc11 d => d.bits.toNat
  | .dlc12 d => d.bits.toNat
  | .dlc13 d => d.bits.toNat
  | .dlc14 d => d.bits.toNat
  | .dlc15 d => d.bits.toNat
  | .dlcDegraded10 d => d.bits.toNat
  | .dlcDegraded20 d => d.bits.toNat
  | .dlcDegraded40 d => d.bits.toNat
  | .dlcDegraded80 d => d.bits.toNat
  | .tScale _ => 0
  | .dataSelBytes f _ _ => f.bits.toNat
  | .dataSelRr f _ _ => f.bits.toNat

/-- The row's mask (spec/opcode_table.json, R84). A DLC row's mask is its bits of in.DLC and every bit above them (R72: "no
bit of it is ignored"): at `DLC_W` = 8 it is the table's 0xFF, 0xF0, 0xE0, 0xC0 and 0x80. -/
def Instr.mask (c : Cfg) : Instr → Nat
  | .decode _ => 0x01
  | .classifyStd _ => flagMask c.rtrBit ||| flagMask c.extBit
  | .classifyExt _ => flagMask c.rtrBit ||| flagMask c.extBit
  | .classifyRtrStd _ => flagMask c.rtrBit ||| flagMask c.extBit
  | .classifyRtrExt _ => flagMask c.rtrBit ||| flagMask c.extBit
  | .idFmtStd _ _ => flagMask c.extBit
  | .idFmtExt _ _ => flagMask c.extBit
  | .dlc0 _ => 2 ^ c.dlcW - 1
  | .dlc1 _ => 2 ^ c.dlcW - 1
  | .dlc2 _ => 2 ^ c.dlcW - 1
  | .dlc3 _ => 2 ^ c.dlcW - 1
  | .dlc4 _ => 2 ^ c.dlcW - 1
  | .dlc5 _ => 2 ^ c.dlcW - 1
  | .dlc6 _ => 2 ^ c.dlcW - 1
  | .dlc7 _ => 2 ^ c.dlcW - 1
  | .dlc8 _ => 2 ^ c.dlcW - 1
  | .dlc9 _ => 2 ^ c.dlcW - 1
  | .dlc10 _ => 2 ^ c.dlcW - 1
  | .dlc11 _ => 2 ^ c.dlcW - 1
  | .dlc12 _ => 2 ^ c.dlcW - 1
  | .dlc13 _ => 2 ^ c.dlcW - 1
  | .dlc14 _ => 2 ^ c.dlcW - 1
  | .dlc15 _ => 2 ^ c.dlcW - 1
  | .dlcDegraded10 _ => 2 ^ c.dlcW - 0x10
  | .dlcDegraded20 _ => 2 ^ c.dlcW - 0x20
  | .dlcDegraded40 _ => 2 ^ c.dlcW - 0x40
  | .dlcDegraded80 _ => 0x80
  | .tScale _ => 0x00
  | .dataSelBytes _ _ _ => flagMask c.rtrBit
  | .dataSelRr _ _ _ => flagMask c.rtrBit

/-- The row's match (spec/opcode_table.json, R84). -/
def Instr.pattern (c : Cfg) : Instr → Nat
  | .decode _ => 0x01
  | .classifyStd _ => 0x00
  | .classifyExt _ => flagMask c.extBit
  | .classifyRtrStd _ => flagMask c.rtrBit
  | .classifyRtrExt _ => flagMask c.rtrBit ||| flagMask c.extBit
  | .idFmtStd _ _ => 0x00
  | .idFmtExt _ _ => flagMask c.extBit
  | .dlc0 _ => 0x00
  | .dlc1 _ => 0x01
  | .dlc2 _ => 0x02
  | .dlc3 _ => 0x03
  | .dlc4 _ => 0x04
  | .dlc5 _ => 0x05
  | .dlc6 _ => 0x06
  | .dlc7 _ => 0x07
  | .dlc8 _ => 0x08
  | .dlc9 _ => 0x09
  | .dlc10 _ => 0x0A
  | .dlc11 _ => 0x0B
  | .dlc12 _ => 0x0C
  | .dlc13 _ => 0x0D
  | .dlc14 _ => 0x0E
  | .dlc15 _ => 0x0F
  | .dlcDegraded10 _ => 0x10
  | .dlcDegraded20 _ => 0x20
  | .dlcDegraded40 _ => 0x40
  | .dlcDegraded80 _ => 0x80
  | .tScale _ => 0x00
  | .dataSelBytes _ _ _ => 0x00
  | .dataSelRr _ _ _ => flagMask c.rtrBit

/-- A DLC above the eight bits of the table's rows, at a block with `DLC_W` > 8: degraded (R161), and taken by the last
degraded row, DLC_DEGRADED_80, which then stands for every value from 0x80 up (log 1). -/
def Instr.aboveTheTable (c : Cfg) (i : Instr) : Bool :=
  i.op == .dlcLen && i.pattern c == 0x80 && decide (0x100 ≤ i.selector)

/-- The fields a case carries have the block's port widths (R8, spec/10_state.md R27). -/
def Instr.fits (c : Cfg) : Instr → Bool
  | .decode r => r.fits c
  | .classifyStd f => f.width == c.flagsW
  | .classifyExt f => f.width == c.flagsW
  | .classifyRtrStd f => f.width == c.flagsW
  | .classifyRtrExt f => f.width == c.flagsW
  | .idFmtStd f _ => f.width == c.flagsW
  | .idFmtExt f _ => f.width == c.flagsW
  | .dlc0 d => d.width == c.dlcW
  | .dlc1 d => d.width == c.dlcW
  | .dlc2 d => d.width == c.dlcW
  | .dlc3 d => d.width == c.dlcW
  | .dlc4 d => d.width == c.dlcW
  | .dlc5 d => d.width == c.dlcW
  | .dlc6 d => d.width == c.dlcW
  | .dlc7 d => d.width == c.dlcW
  | .dlc8 d => d.width == c.dlcW
  | .dlc9 d => d.width == c.dlcW
  | .dlc10 d => d.width == c.dlcW
  | .dlc11 d => d.width == c.dlcW
  | .dlc12 d => d.width == c.dlcW
  | .dlc13 d => d.width == c.dlcW
  | .dlc14 d => d.width == c.dlcW
  | .dlc15 d => d.width == c.dlcW
  | .dlcDegraded10 d => d.width == c.dlcW
  | .dlcDegraded20 d => d.width == c.dlcW
  | .dlcDegraded40 d => d.width == c.dlcW
  | .dlcDegraded80 d => d.width == c.dlcW
  | .tScale _ => true
  | .dataSelBytes f d _ => f.width == c.flagsW && d.width == c.dlcW
  | .dataSelRr f d _ => f.width == c.flagsW && d.width == c.dlcW

/-- A case is well formed when its fields have the block's widths and the field that selects it matches its row. -/
def Instr.wf (c : Cfg) (i : Instr) : Bool :=
  i.fits c && ((i.selector &&& i.mask c) == i.pattern c || i.aboveTheTable c)

end Sys2Proof
end

