-- ==== Sys2Proof/Decode.lean ====
section
/-! DEFINITION. The packed words of spec/30_encoding.md (TXN_IN R70, TXN_OUT R71), the decoder that reads the cases of each
operation from an input record (R84), the encoder, and the two readings of a table word the host asks for. -/

namespace Sys2Proof

/-! ## The packed words -/

/-- The bits of a packed input record (R70): 624 at this hardware's widths. -/
abbrev txnInBits (c : Cfg) : Nat := 608 + c.flagsW + c.dlcW
/-- The packed input record. R70 gives it for `FLAGS_W` = `DLC_W` = 8; at other widths the model keeps the fields in R70's order,
each directly above the one before (log 1). -/
abbrev TxnIn (c : Cfg) := BitVec (txnInBits c)
/-- The packed output record, 666 bits (R71). -/
abbrev TxnOut := BitVec 666

/-- The first `n` bytes `f 0 … f (n-1)` laid into a word of `w` bits, byte `i` at bits [8i+7 : 8i] (R51). -/
def packBytes (w : Nat) (f : Nat → Byte) : Nat → BitVec w
  | 0 => 0#w
  | n + 1 => packBytes w f n ||| ((f n).setWidth w <<< (8 * n))

/-- Format TXN_IN (R70): each field at its word bits, bit 0 of the field lowest. At 8-bit flags and DLC the fields start at
bits 0, 32, 40, 48 and 112. -/
def packTxnIn (c : Cfg) (r : RawIn) : TxnIn c :=
  r.id.setWidth (txnInBits c) ||| (r.flags.bits.setWidth (txnInBits c) <<< 32) |||
    (r.dlc.bits.setWidth (txnInBits c) <<< (32 + c.flagsW)) |||
    (r.ts.setWidth (txnInBits c) <<< (32 + c.flagsW + c.dlcW)) |||
    (packBytes (txnInBits c) r.payload.byte 64 <<< (96 + c.flagsW + c.dlcW))

/-- The fields of a TXN_IN word (R70). -/
def unpackTxnIn (c : Cfg) (w : TxnIn c) : RawIn :=
  { id := w.extractLsb' 0 32
    flags := ⟨c.flagsW, w.extractLsb' 32 c.flagsW⟩
    dlc := ⟨c.dlcW, w.extractLsb' (32 + c.flagsW) c.dlcW⟩
    ts := w.extractLsb' (32 + c.flagsW + c.dlcW) 64
    payload := Payload.ofBytes fun i => w.extractLsb' (96 + c.flagsW + c.dlcW + 8 * i) 8 }

/-- Format TXN_OUT (R71). -/
def packTxnOut (o : DecOut) : TxnOut :=
  o.id.setWidth 666 ||| (o.type.setWidth 666 <<< 32) ||| ((BitVec.ofBool o.dataRR).setWidth 666 <<< 34) |||
    (o.len.setWidth 666 <<< 35) ||| (o.dsec.setWidth 666 <<< 42) ||| (o.byteEn.setWidth 666 <<< 90) |||
    (packBytes 666 o.payload.byte 64 <<< 154)

/-- The fields of a TXN_OUT word (R71). -/
def unpackTxnOut (w : TxnOut) : DecOut :=
  { id := w.extractLsb' 0 32
    type := w.extractLsb' 32 2
    dataRR := w.getLsbD 34
    len := w.extractLsb' 35 7
    dsec := w.extractLsb' 42 48
    byteEn := w.extractLsb' 90 64
    payload := Payload.ofBytes fun i => w.extractLsb' (154 + 8 * i) 8 }

/-! ## The decoder -/

/-- The rows of an operation in spec/opcode_table.json, in the table's order, each filled with the fields of `r`. -/
def Op.rows (r : RawIn) : Op → List Instr
  | .decode => [.decode r]
  | .classify => [.classifyStd r.flags, .classifyExt r.flags, .classifyRtrStd r.flags, .classifyRtrExt r.flags]
  | .idFmt => [.idFmtStd r.flags r.id, .idFmtExt r.flags r.id]
  | .dlcLen =>
    [.dlc0 r.dlc, .dlc1 r.dlc, .dlc2 r.dlc, .dlc3 r.dlc, .dlc4 r.dlc, .dlc5 r.dlc, .dlc6 r.dlc, .dlc7 r.dlc,
      .dlc8 r.dlc, .dlc9 r.dlc, .dlc10 r.dlc, .dlc11 r.dlc, .dlc12 r.dlc, .dlc13 r.dlc, .dlc14 r.dlc, .dlc15 r.dlc,
      .dlcDegraded10 r.dlc, .dlcDegraded20 r.dlc, .dlcDegraded40 r.dlc, .dlcDegraded80 r.dlc]
  | .tScale => [.tScale r.ts]
  | .dataSel => [.dataSelBytes r.flags r.dlc r.payload, .dataSelRr r.flags r.dlc r.payload]

/-- The case of an operation that an input record selects: the first row whose match and mask it meets (R84). -/
def caseOf (c : Cfg) (op : Op) (r : RawIn) : Option Instr := (op.rows r).find? (·.wf c)

/-- The instruction on the input ports: DECODE when in.VALID = 1 (R84), none on an idle slot (R29). -/
def decodePorts (valid : Bool) (r : RawIn) : Option Instr := if valid then some (.decode r) else none

/-- Why a word is no operation. -/
inductive DecodeReject where
  /-- Not the bytes of a TXN_IN word (R70, R83: the format is fixed). -/
  | notATxnInWord (bytes : Nat)
  /-- No row of the operation matches. A legal configuration never gives this (R80). -/
  | noRow (op : Op)
deriving DecidableEq, Repr

/-- The case of `op` that a TXN_IN word selects. -/
def decodeWord (c : Cfg) (op : Op) (w : TxnIn c) : Except DecodeReject Instr :=
  match caseOf c op (unpackTxnIn c w) with
  | some i => .ok i
  | none => .error (.noRow op)

/-- The bytes that hold a TXN_IN word: 78 at this hardware's widths. -/
def txnInBytes (c : Cfg) : Nat := (txnInBits c + 7) / 8

/-- The TXN_IN word of a list of bytes, byte `k` at word bits [8k+7 : 8k] (R53, log 17). Bits of the last byte above the word
are not part of it. -/
def wordOfBytes (c : Cfg) (bs : List Byte) : TxnIn c := packBytes (txnInBits c) (fun k => bs[k]?.getD 0) (txnInBytes c)

/-- The decoder on any bytes: those of one TXN_IN word, or a rejection by name. -/
def decodeBytes (c : Cfg) (op : Op) (bs : List Byte) : Except DecodeReject Instr :=
  if bs.length = txnInBytes c then decodeWord c op (wordOfBytes c bs) else .error (.notATxnInWord bs.length)

/-! ## The encoder -/

/-- The input record in which every field is 0, at the block's port widths. -/
def RawIn.blank (c : Cfg) : RawIn :=
  { id := 0, flags := ⟨c.flagsW, 0⟩, dlc := ⟨c.dlcW, 0⟩, ts := 0, payload := Payload.ofBytes fun _ => 0 }

/-- The input record with a case's fields in their places; the fields its operation does not read are 0 (log 4). -/
def Instr.toRaw (c : Cfg) : Instr → RawIn
  | .decode r => r
  | .classifyStd f => { RawIn.blank c with flags := f }
  | .classifyExt f => { RawIn.blank c with flags := f }
  | .classifyRtrStd f => { RawIn.blank c with flags := f }
  | .classifyRtrExt f => { RawIn.blank c with flags := f }
  | .idFmtStd f x => { RawIn.blank c with flags := f, id := x }
  | .idFmtExt f x => { RawIn.blank c with flags := f, id := x }
  | .dlc0 d => { RawIn.blank c with dlc := d }
  | .dlc1 d => { RawIn.blank c with dlc := d }
  | .dlc2 d => { RawIn.blank c with dlc := d }
  | .dlc3 d => { RawIn.blank c with dlc := d }
  | .dlc4 d => { RawIn.blank c with dlc := d }
  | .dlc5 d => { RawIn.blank c with dlc := d }
  | .dlc6 d => { RawIn.blank c with dlc := d }
  | .dlc7 d => { RawIn.blank c with dlc := d }
  | .dlc8 d => { RawIn.blank c with dlc := d }
  | .dlc9 d => { RawIn.blank c with dlc := d }
  | .dlc10 d => { RawIn.blank c with dlc := d }
  | .dlc11 d => { RawIn.blank c with dlc := d }
  | .dlc12 d => { RawIn.blank c with dlc := d }
  | .dlc13 d => { RawIn.blank c with dlc := d }
  | .dlc14 d => { RawIn.blank c with dlc := d }
  | .dlc15 d => { RawIn.blank c with dlc := d }
  | .dlcDegraded10 d => { RawIn.blank c with dlc := d }
  | .dlcDegraded20 d => { RawIn.blank c with dlc := d }
  | .dlcDegraded40 d => { RawIn.blank c with dlc := d }
  | .dlcDegraded80 d => { RawIn.blank c with dlc := d }
  | .tScale t => { RawIn.blank c with ts := t }
  | .dataSelBytes f d p => { RawIn.blank c with flags := f, dlc := d, payload := p }
  | .dataSelRr f d p => { RawIn.blank c with flags := f, dlc := d, payload := p }

/-- The word of a case: the TXN_IN word with its fields in the places of R70. Which operation reads it is `Instr.op`. -/
def encode (c : Cfg) (i : Instr) : TxnIn c := packTxnIn c (i.toRaw c)

/-- The bytes of a case's word (log 17). -/
def encodeBytes (c : Cfg) (i : Instr) : List Byte :=
  (List.range (txnInBytes c)).map fun k => (encode c i).extractLsb' (8 * k) 8

/-! ## The host's reading of a table word -/

/-- The input record a table word stands for. A row of spec/opcode_table.json gives no bits of its own to the operation's
name: its bits are those of the field that selects the case. A word of at most 8 bits is read as in.DLC, the one
selector all of whose bits the table's rows use; a longer word is TXN_IN (log 5). -/
def tableRaw (c : Cfg) (nbits w : Nat) : RawIn :=
  if nbits ≤ 8 then { RawIn.blank c with dlc := ⟨c.dlcW, BitVec.ofNat c.dlcW w⟩ }
  else unpackTxnIn c (BitVec.ofNat (txnInBits c) w)

/-- The operation that reads a table word: TSCALE for the row the table gives no bits, DLCLEN for a word of one byte,
DECODE for a longer word (log 5). -/
def tableOp (nbits : Nat) : Op :=
  if nbits = 0 then .tScale else if nbits ≤ 8 then .dlcLen else .decode

/-- The instruction the decoder reads from a table word, at this hardware's parameters (log 5). -/
def decodeTableWord (nbits w : Nat) : Option Instr :=
  caseOf Cfg.thisHardware (tableOp nbits) (tableRaw Cfg.thisHardware nbits w)

end Sys2Proof
end

