-- ==== Sys2Proof/Machine/HostLoop.lean ====
section
/-! DEFINITION. The host around the block (spec/60_exceptions.md R315 to R320): presenting an adapter result in a slot,
fetching the transaction, and reporting. -/

namespace Sys2Proof.Machine

/-- The record on the input ports for a raw frame presented in slot `slot`: the received bytes fill the buffer from byte 0,
and every other byte is undefined, a free value (spec/20_memory.md R52; spec/70_reset_and_hazards.md R350; log 9). A byte that
was received is presented as received also at an index from `length(dlc)` on, where R52 and U1 call the value undefined: the
model's choice, after R85 and program P2, which list such bytes (log 9). -/
def RawFrame.toRaw (slot : Nat) (f : RawFrame) : RawIn :=
  { id := f.id
    flags := f.flags
    dlc := f.dlc
    ts := f.ts
    payload := Payload.ofBytes fun i => f.received[i]?.getD (Config.freeByte slot i) }

/-- The frame that presents exactly the record `r`: all 64 bytes received. -/
def RawFrame.ofRaw (r : RawIn) : RawFrame :=
  { id := r.id, flags := r.flags, dlc := r.dlc, ts := r.ts, received := r.payload.toList }

/-- The input ports of an idle slot: don't-care, each a free value of its width (spec/10_state.md R29; log 8). -/
def idleRaw (c : Cfg) (slot : Nat) : RawIn :=
  { id := Config.freeIn 32 slot 0
    flags := ⟨c.flagsW, Config.freeIn c.flagsW slot 1⟩
    dlc := ⟨c.dlcW, Config.freeIn c.dlcW slot 2⟩
    ts := Config.freeIn 64 slot 3
    payload := Payload.ofBytes fun i => Config.freeIn 8 slot (4 + i) }

/-- What the host drives on the input ports for what it got in slot `slot`: a raw frame with in.VALID = 1 (R316 a); for
anything else in.VALID = 0, and the other ports are don't-care (R316 b, c; spec/10_state.md R29; log 8). -/
def portsOf (c : Cfg) (slot : Nat) : Option AdapterResult → InPorts
  | some (.frame f) => ⟨true, f.toRaw slot⟩
  | some .empty => ⟨false, idleRaw c slot⟩
  | some (.error _) => ⟨false, idleRaw c slot⟩
  | none => ⟨false, idleRaw c slot⟩

/-- What the host then awaits to report (R316, R320). -/
def awaitedOf : AdapterResult → Awaited
  | .frame _ => .transaction
  | .empty => .empty
  | .error code => .error code

/-- The host side of a slot: take the next entry of the script, drive the reset signal and the input ports (R316, R319). A
script that has ended gives idle slots with reset not asserted (log 11). -/
def State.present (s : State) : State :=
  match s.script with
  | [] => { s with rst := false, inp := portsOf s.cfg s.draws none }
  | slot :: rest =>
    { s with
      script := rest
      rst := slot.rst
      inp := portsOf s.cfg s.draws slot.result
      awaiting := s.awaiting ++ (slot.result.map awaitedOf).toList }

/-- The transaction of the slot. While a pipeline reset is asserted, inputs presented are not accepted
(spec/70_reset_and_hazards.md R342). -/
def State.fetch (s : State) : Option Instr :=
  if s.pipeReset then none else decodePorts s.inp.valid s.inp.raw

/-- The sentinels at the head of the awaited results, as Reporter events (R316 b, c). -/
def leadingSentinels : List Awaited → List Event
  | .empty :: rest => .empty :: leadingSentinels rest
  | .error code :: rest => .error code :: leadingSentinels rest
  | .transaction :: _ => []
  | [] => []

/-- The awaited results from the first transaction on. -/
def fromTransaction : List Awaited → List Awaited
  | .empty :: rest => fromTransaction rest
  | .error _ :: rest => fromTransaction rest
  | .transaction :: rest => .transaction :: rest
  | [] => []

/-- The sentinels that no earlier transaction holds back go to the Reporter, untouched (R316; log 13). -/
def State.reportSentinels (s : State) : State :=
  { s with
    reporter := s.reporter ++ leadingSentinels s.awaiting
    awaiting := fromTransaction s.awaiting }

/-- A result on the output ports goes to the Reporter (R316 a). -/
def State.reportFrame (s : State) : State :=
  match s.readOut with
  | some o => { s with reporter := s.reporter ++ [.frame o], awaiting := s.awaiting.drop 1 }
  | none => s

/-- The host's end of a slot: the result that has emerged, then the sentinels behind it. -/
def State.report (s : State) : State := s.reportFrame.reportSentinels

/-! ## Pseudo-operations (spec/30_encoding.md R86): one DECODE with the flags byte fixed,
in the 8 bits of format FLAGS8 (R74) -/

/-- DECODE_STD. -/
def decodeStd (id : CanId) (dlc : Dlc) (ts : Ticks) (received : List Byte) : AdapterResult :=
  .frame { id, flags := ⟨8, 0x00⟩, dlc, ts, received }
/-- DECODE_EXT. -/
def decodeExt (id : CanId) (dlc : Dlc) (ts : Ticks) (received : List Byte) : AdapterResult :=
  .frame { id, flags := ⟨8, 0x02⟩, dlc, ts, received }
/-- DECODE_RTR_STD. -/
def decodeRtrStd (id : CanId) (dlc : Dlc) (ts : Ticks) (received : List Byte) : AdapterResult :=
  .frame { id, flags := ⟨8, 0x01⟩, dlc, ts, received }
/-- DECODE_RTR_EXT. -/
def decodeRtrExt (id : CanId) (dlc : Dlc) (ts : Ticks) (received : List Byte) : AdapterResult :=
  .frame { id, flags := ⟨8, 0x03⟩, dlc, ts, received }

end Sys2Proof.Machine
end

