-- ==== Sys2Proof/Machine/Step.lean ====
section
/-! DEFINITION. One step is one transaction slot (log 3): the host presents, the pipeline clocks, the presented frame is
decoded and executed (or the slot is idle), and the host reports (spec/60_exceptions.md R316). -/

namespace Sys2Proof.Machine

/-- The state in which a slot's transaction is evaluated: the host has presented and the pipeline has moved. -/
def State.slotStart (s : State) : State := s.present.clock

def step (s : State) : Host.Outcome State Fault Refusal :=
  match s.slotStart.fetch with
  | none => .next s.slotStart.report
  | some i =>
    match exec i s.slotStart with
    | .next t => .next t.report
    | .fault f => .fault f
    | .refused r => .refused r

/-- `s` with the transaction of a table word as the next adapter result, reset not asserted, so that the very next step
decodes it (log 5, log 14). -/
def State.withFetchWord (s : State) (nbits w : Nat) : State :=
  { s with script := ⟨false, some (.frame (RawFrame.ofRaw (tableRaw s.cfg nbits w)))⟩ :: s.script }

end Sys2Proof.Machine
end

