-- ==== Sys2Proof/Machine/Flags.lean ====
section
/-! DEFINITION. The flag word FLAGS8 (spec/30_encoding.md R74). The block holds no flags and writes none
(spec/10_state.md R23), so there is no flag computation: only the names of the bits and which of them it reads. -/

namespace Sys2Proof.Machine

/-- The bit of FD, which the block does not read (R74). -/
def fdBit : Nat := 2
/-- The bit of BITRATE_SWITCH, which the block does not read (R74). -/
def brsBit : Nat := 3
/-- The bit of ERROR_STATE_INDICATOR, which the block does not read (R74). -/
def esiBit : Nat := 4

/-- The flag word of a list of flags, on a port of `FLAGS_W` bits (R8). -/
def flagsOf (c : Cfg) (bits : List Nat) : Flags := ⟨c.flagsW, bits.foldl (fun w n => w ||| BitVec.twoPow c.flagsW n) 0⟩

/-- The two bits the block reads (R74). -/
def readFlags (c : Cfg) : Flags := flagsOf c [c.rtrBit, c.extBit]

/-- Two flag words that the block cannot tell apart: "the block reads those two bits and no other" (R74). -/
def sameReadFlags (c : Cfg) (f g : Flags) : Bool :=
  f.bits.getLsbD c.extBit == g.bits.getLsbD c.extBit && f.bits.getLsbD c.rtrBit == g.bits.getLsbD c.rtrBit

end Sys2Proof.Machine
end

