-- ==== Sys2Proof/Machine/Rendering.lean ====
section
/-! DEFINITION. Host-side text (spec/49_reporter_rendering.md R220 to R226; the text form of transactions and results,
spec/30_encoding.md R85). No part of the hardware: it turns the output ports into the source's exact strings. -/

namespace Sys2Proof.Machine

/-- The digits of a number in a base, least significant first, at most `fuel` of them; zero has the one digit 0. -/
def digitsOf (base : Nat) : Nat → Nat → List Nat
  | 0, _ => []
  | fuel + 1, n => if n < base then [n] else (n % base) :: digitsOf base fuel (n / base)

/-- The character of a digit: `0`–`9` and `A`–`F` (R222). -/
def digitChar (d : Nat) : Char := if d < 10 then Char.ofNat (48 + d) else Char.ofNat (55 + d)

/-- A numeral, most significant digit first, every digit written: in no base of at least two has `n` more digits than bits. -/
def numeral (base n : Nat) : List Char := ((digitsOf base (n.log2 + 1) n).map digitChar).reverse

/-- Uppercase hexadecimal, no leading zeros, "0" for zero (R222). -/
def hexText (n : Nat) : String := String.ofList (numeral 16 n)

/-- Decimal, no leading zeros, "0" for zero (R223, R224). -/
def decText (n : Nat) : String := String.ofList (numeral 10 n)

/-- Hexadecimal with zeros in front up to `width` digits; a longer numeral is written whole. -/
def hexPadded (width n : Nat) : String :=
  String.ofList (List.replicate (width - (numeral 16 n).length) '0' ++ numeral 16 n)

/-- `typeLabel(out.TYPE)` (R221, R76). -/
def typeLabel (t : BitVec 2) : String :=
  if t = 0b00#2 then "Standard Frame"
  else if t = 0b01#2 then "Extended Frame"
  else if t = 0b10#2 then "RTR Frame (Standard ID)"
  else "RTR Frame (Extended ID)"

/-- `idText(out.ID)` (R222). -/
def idText (id : CanId) : String := hexText id.toNat

/-- The text of `length` (R223). -/
def lengthText (len : Len) : String := decText len.toNat

/-- `timeText(out.DSEC)`: the integer part, a point, one fractional digit (R224, R182). -/
def timeText (dsec : Dsec) : String := decText (dsec.toNat / 10) ++ "." ++ decText (dsec.toNat % 10)

/-- One payload byte, as `HEX_BYTE_PAD` says (R225). -/
def hexByte (pad : HexBytePad) (b : Byte) : String :=
  match pad with
  | .twoDigit => hexPadded 2 b.toNat
  | .minimal => hexText b.toNat

/-- Texts joined by one space (R225). -/
def joinSpace : List String → String
  | [] => ""
  | [t] => t
  | t :: u :: rest => t ++ " " ++ joinSpace (u :: rest)

/-- The payload bytes that the byte enables show, in increasing index (R225, R31). -/
def shownBytes (o : DecOut) : List Byte :=
  ((List.range payloadCap).filter fun i => o.byteEn.getLsbD i).map o.payload.byte

/-- `dataText(out)` (R225). -/
def dataText (pad : HexBytePad) (o : DecOut) : String :=
  if o.dataRR then "Remote Request" else joinSpace ((shownBytes o).map (hexByte pad))

/-- A decoded frame's text record, field for field the source's `DecodedFrame` (R226). -/
structure TextRecord where
  typeLabel   : String
  idText      : String
  length      : Nat
  timeSeconds : String
  dataText    : String
deriving DecidableEq, Repr

/-- The text record of an output record (R226), as the parameter `HEX_BYTE_PAD` says (spec/00_scope.md R8). -/
def textRecord (c : Cfg) (o : DecOut) : TextRecord :=
  { typeLabel := typeLabel o.type
    idText := idText o.id
    length := o.len.toNat
    timeSeconds := timeText o.dsec
    dataText := dataText c.hexBytePad o }

/-- The text of a Reporter event: only a frame has a text record (R220, R226; spec/60_exceptions.md R316). -/
def Event.text (c : Cfg) : Event → Option TextRecord
  | .frame o => some (textRecord c o)
  | .empty => none
  | .error _ => none

/-- The text records of the frames reported so far, in order, at the machine's own parameters (R220). -/
def State.texts (s : State) : List TextRecord := s.reporter.filterMap (Event.text s.cfg)

/-- A slot in the text form of R85; `??` bytes are those not listed, and are left out (log 16). An error code, opaque and of no
given width, is written in hexadecimal with at least eight digits and every digit it has: the model's choice (log 16). -/
def adapterResultText : AdapterResult → String
  | .frame f =>
    "DECODE id=0x" ++ hexText f.id.toNat ++ ", flags=0x" ++ hexPadded 2 f.flags.bits.toNat ++ ", dlc=" ++ decText f.dlc.bits.toNat ++
      ", ts=" ++ decText f.ts.toNat ++ ", payload=[" ++ joinSpace (f.received.map (hexByte .twoDigit)) ++ "]"
  | .empty => "IDLE empty"
  | .error code => "IDLE error=0x" ++ hexPadded 8 code

/-- A result in the text form of R85. -/
def resultText (o : DecOut) : String :=
  "=> type=0b" ++ decText (o.type.toNat / 2) ++ decText (o.type.toNat % 2) ++ " id=0x" ++ hexText o.id.toNat ++
    " len=" ++ decText o.len.toNat ++ " dsec=" ++ decText o.dsec.toNat ++ " rr=" ++ (if o.dataRR then "1" else "0") ++
    " en=0x" ++ hexText o.byteEn.toNat

end Sys2Proof.Machine
end

