-- ==== Sys2Proof/Safety.lean ====
section
/-! DEFINITION. What counts as a safe state and a safe run, in the terms the claims use: the invariant that every slot keeps,
and the observation a run is to have (spec/60_exceptions.md R320). -/

namespace Sys2Proof.Machine

/-- An output record that the block can drive: the encodings "never produced" are ruled out (spec/30_encoding.md R77, R82;
spec/42_id_formatter.md R143; R76; spec/45_data_select.md R200, R201). -/
structure DecOut.Producible (o : DecOut) : Prop where
  len_le      : o.len.toNat ≤ 64
  dsec_le     : o.dsec.toNat ≤ 184467440737096
  rr_is_type  : o.dataRR = o.type.getLsbD 1
  standard_id : o.type.getLsbD 0 = false → o.id.toNat ≤ 0x7FF
  window      : ∀ i, i < 64 → o.byteEn.getLsbD i = (!o.dataRR && decide (i < o.len.toNat))

/-- The results that have left the datapath's slot but not yet stood on the output ports when the slot ends, oldest first:
every valid place but the oldest, which the host has read. -/
def State.inFlight (s : State) : List DecOut :=
  (((s.datapath :: s.pipe).dropLast.filter (·.valid)).map (·.data)).reverse

/-- A frame for a block of these parameters: its flags and DLC have the ports' widths (spec/10_state.md R30; log 1). -/
def RawFrame.fits (c : Cfg) (f : RawFrame) : Bool := f.flags.width == c.flagsW && f.dlc.width == c.dlcW

/-- What holds of the machine between two slots. -/
structure State.Inv (s : State) : Prop where
  /-- The parameters are legal (spec/00_scope.md R8). -/
  cfg_legal   : s.cfg.legal = true
  /-- The input ports hold a record of the block's widths (spec/10_state.md R27, R30). -/
  inp_fits    : s.inp.raw.fits s.cfg = true
  /-- So does every frame still to come (log 1). -/
  script_fits : ∀ h ∈ s.script, ∀ f, h.result = some (.frame f) → f.fits s.cfg = true
  /-- There are LATENCY pipeline registers (spec/10_state.md R26, R32). -/
  pipe_length : s.pipe.length = s.cfg.latency
  /-- A valid place holds what the block can drive (spec/10_state.md R34, spec/30_encoding.md R82). -/
  producible  : ∀ g ∈ s.datapath :: s.pipe, g.valid = true → DecOut.Producible g.data
  /-- The host awaits exactly the transactions in flight (spec/60_exceptions.md R316, R320). -/
  awaited     : (s.awaiting.filter (· == .transaction)).length = s.inFlight.length
  /-- No sentinel is held back but by an earlier transaction (log 13). -/
  settled     : s.awaiting.head? = none ∨ s.awaiting.head? = some .transaction

/-- A run of `n` slots, stopping where a step stops: the host's `Core.run` of this machine (Laws/Step.lean, run_eq_core_run). -/
def runSlots : Nat → State → Host.Outcome State Fault Refusal
  | 0, s => .next s
  | n + 1, s =>
    match step s with
    | .next t => runSlots n t
    | .fault f => .fault f
    | .refused r => .refused r

/-- A run that never stops (spec/60_exceptions.md R300). -/
def State.RunsForever (s : State) : Prop := ∀ n, ∃ t, runSlots n s = .next t

/-- The Reporter event of an adapter result requested in slot `slot` (spec/60_exceptions.md R316). -/
def AdapterResult.event (c : Cfg) (slot : Nat) : AdapterResult → Event
  | .frame f => .frame (decodeFrame c (f.toRaw slot))
  | .empty => .empty
  | .error code => .error code

/-- The Reporter events of a script that starts in slot `slot`: one per result, in order (spec/60_exceptions.md R320). -/
def expectedEvents (c : Cfg) : Nat → List HostSlot → List Event
  | _, [] => []
  | slot, h :: rest =>
    match h.result with
    | some r => r.event c slot :: expectedEvents c (slot + 1) rest
    | none => expectedEvents c (slot + 1) rest

/-- One instruction after another. -/
def execAll : List Instr → State → Host.Outcome State Fault Refusal
  | [], s => .next s
  | i :: rest, s =>
    match exec i s with
    | .next t => execAll rest t
    | .fault f => .fault f
    | .refused r => .refused r

/-- The cases that an input record selects, one for each operation of a list. -/
def casesOf (c : Cfg) (r : RawIn) : List Op → Option (List Instr)
  | [] => some []
  | op :: rest =>
    match caseOf c op r, casesOf c r rest with
    | some i, some is => some (i :: is)
    | _, _ => none

end Sys2Proof.Machine
end

