-- ==== Sys2Proof/Certificates/Slice0/Obligations.lean ====
section
/-! DEFINITION. The statements for the provers, each from a numbered rule of spec/. There is no program in them. -/

open Sys2Proof Sys2Proof.Machine

/-! ## The machine: reset, invariant, steps -/

/-- After reset (R36, R340): the parameters are the value column of R8, no result is valid, no pipeline register exists. The
model's choices beside these: in.VALID is 0 (log 10), on which out.VALID = 0 rests, since at LATENCY = 0 out.VALID equals
in.VALID (R36) and reset changes nothing (R340); and the host's own lists, the script, the awaited results and the Reporter's
events, are empty (log 14). -/
def Obligations.ResetLeavesNothingInFlight : Prop :=
  State.reset.cfg =
    { flagsW := 8, dlcW := 8, rtrBit := 0, extBit := 1, extIdMask := 0xFFFFFFFF#32, latency := 0, hexBytePad := .twoDigit } ∧
  State.reset.inp.valid = false ∧ State.reset.datapath.valid = false ∧ State.reset.out.valid = false ∧ State.reset.readOut = none ∧
  State.reset.pipe = [] ∧ State.reset.script = [] ∧ State.reset.awaiting = [] ∧ State.reset.reporter = []

/-- The invariant holds after reset. Of its clauses, `awaited` and `settled` are about the model's host (log 13), and they and
`script_fits` hold here because the host's lists are empty at reset (log 14); `inp_fits` is of the widths log 1 gives the ports.
The rest is the spec's (R8, R26, R36). -/
def Obligations.ResetMeetsTheInvariant : Prop := State.reset.Inv

/-- Every slot keeps the invariant: legal parameters, input ports and coming frames of the block's widths (log 1), LATENCY
pipeline registers, only producible results, and a host that awaits exactly the transactions in flight and holds back no sentinel
but behind one of them (the model's host, log 13). -/
def Obligations.StepKeepsTheInvariant : Prop :=
  ∀ s t : State, s.Inv → step s = .next t → t.Inv

/-- The parameters are constant for the block's lifetime (R24). -/
def Obligations.ParametersNeverChange : Prop :=
  ∀ (n : Nat) (s t : State), runSlots n s = .next t → t.cfg = s.cfg

/-- No input, no parameter and no sequence of slots stops the machine, from any state (R300); there is no fault to name. -/
def Obligations.NoSequenceOfSlotsStops : Prop :=
  (∀ _ : Fault, False) ∧ ∀ s : State, s.RunsForever

/-- A step runs the decoded instruction: it is `exec` of what the slot's input ports decode to, in the state where the host
has presented and the pipeline has moved, and then the host's report; where they decode to nothing, it only reports. A slot that
presents a frame has in.VALID = 1 and the frame's record on its ports, and runs DECODE of it; a slot without a frame, and a slot
after the script has ended, has in.VALID = 0, undefined values on the other ports (R29; free values, log 8) and runs nothing; a
slot of a pipeline reset runs nothing (R342). Where the ports hold a TXN_IN word's record, what is run is what the word decodes
to. -/
def Obligations.StepRunsTheDecodedTransaction : Prop :=
  ∀ s : State,
    (∀ i, s.slotStart.fetch = some i →
      step s = match exec i s.slotStart with
        | .next t => .next t.report
        | .fault f => .fault f
        | .refused r => .refused r) ∧
    (s.slotStart.fetch = none → step s = .next s.slotStart.report) ∧
    (∀ (rst : Bool) (f : RawFrame) (rest : List HostSlot), s.script = ⟨rst, some (.frame f)⟩ :: rest →
      s.slotStart.inp = ⟨true, f.toRaw s.draws⟩ ∧
      ((rst = false ∨ s.cfg.latency = 0) → s.slotStart.fetch = some (.decode (f.toRaw s.draws)))) ∧
    (∀ (rst : Bool) (res : Option AdapterResult) (rest : List HostSlot), s.script = ⟨rst, res⟩ :: rest →
      (∀ f, res ≠ some (.frame f)) →
      s.slotStart.inp = ⟨false, idleRaw s.cfg s.draws⟩ ∧ s.slotStart.fetch = none) ∧
    (s.script = [] → s.slotStart.inp = ⟨false, idleRaw s.cfg s.draws⟩ ∧ s.slotStart.fetch = none) ∧
    (∀ (res : Option AdapterResult) (rest : List HostSlot), s.script = ⟨true, res⟩ :: rest → 0 < s.cfg.latency →
      s.slotStart.fetch = none) ∧
    (∀ (bs : List Byte) (i : Instr), decodeBytes s.cfg .decode bs = .ok i →
      s.slotStart.inp = ⟨true, unpackTxnIn s.cfg (wordOfBytes s.cfg bs)⟩ → s.slotStart.pipeReset = false →
      s.slotStart.fetch = some i)

/-- Equal presentations give equal outputs, whatever came before, whatever the reset line and whatever the rest of the
state holds (R21, R34, R57, R342), at LATENCY = 0. -/
def Obligations.OutputsDependOnTheirOwnTransactionAlone : Prop :=
  ∀ (s₁ s₂ : State) (rst₁ rst₂ : Bool) (f₁ f₂ : RawFrame) (rest₁ rest₂ : List HostSlot),
    s₁.cfg = s₂.cfg → s₁.cfg.latency = 0 →
    s₁.script = ⟨rst₁, some (.frame f₁)⟩ :: rest₁ → s₂.script = ⟨rst₂, some (.frame f₂)⟩ :: rest₂ →
    f₁.toRaw s₁.draws = f₂.toRaw s₂.draws →
    ∃ t₁ t₂, step s₁ = .next t₁ ∧ step s₂ = .next t₂ ∧
      t₁.out = ⟨true, decodeFrame s₁.cfg (f₁.toRaw s₁.draws)⟩ ∧ t₂.out = t₁.out

/-- out.VALID is in.VALID delayed by LATENCY slots, and with it come the outputs of that transaction (R32, R34), when no
reset is asserted meanwhile. -/
def Obligations.ResultEmergesLatencySlotsLater : Prop :=
  ∀ (s : State) (h : HostSlot) (rest : List HostSlot), s.pipe.length = s.cfg.latency → s.script = h :: rest →
    (∀ g ∈ (h :: rest).take (s.cfg.latency + 1), g.rst = false) →
    ∃ t, runSlots (s.cfg.latency + 1) s = .next t ∧
      (∀ f, h.result = some (.frame f) → t.out = ⟨true, decodeFrame s.cfg (f.toRaw s.draws)⟩) ∧
      ((∀ f, h.result ≠ some (.frame f)) → t.out.valid = false ∧ t.readOut = none)

/-- The observation of a run (R316, R320): after the script's slots and LATENCY more, the Reporter has got one event per
result, in order; frames decoded, sentinels untouched. That a sentinel behind a frame in flight waits for it is the model's
host (log 13); one step a slot is log 3. -/
def Obligations.RunReportsEveryResultInOrder : Prop :=
  ∀ s : State, s.Inv → s.awaiting = [] → (∀ h ∈ s.script, h.rst = false) →
    ∃ t, runSlots (s.script.length + s.cfg.latency) s = .next t ∧
      t.reporter = s.reporter ++ expectedEvents s.cfg s.draws s.script ∧ t.awaiting = [] ∧ t.script = []

/-- A reset with LATENCY > 0 (R340, R342): every valid bit is 0, out.VALID is 0, the presented frame is not accepted, no
frame is reported. That the host gives up the discarded transactions is the model's choice (log 12). -/
def Obligations.PipelineResetDiscardsEveryTransaction : Prop :=
  ∀ (s : State) (res : Option AdapterResult) (rest : List HostSlot),
    0 < s.cfg.latency → s.script = ⟨true, res⟩ :: rest →
    ∃ t, step s = .next t ∧ (∀ g ∈ t.datapath :: t.pipe, g.valid = false) ∧ t.pipe.length = s.cfg.latency ∧
      t.readOut = none ∧ .transaction ∉ t.awaiting ∧
      ∃ es, t.reporter = s.reporter ++ es ∧ ∀ o, Event.frame o ∉ es

/-- With LATENCY = 0 reset has no effect (R340, R342): the same slot with and without it differs in the reset line alone. -/
def Obligations.ResetHasNoEffectAtLatencyZero : Prop :=
  ∀ (s : State) (res : Option AdapterResult) (rest : List HostSlot), s.cfg.latency = 0 →
    ∃ t, step { s with script := ⟨false, res⟩ :: rest } = .next t ∧
      step { s with script := ⟨true, res⟩ :: rest } = .next { t with rst := true }

/-- An empty-queue signal and an error code are no transaction: nothing valid is driven, and the host forwards them
untouched (R316 b, c), here with no transaction in flight before them (behind one they wait: the model's host, log 13). -/
def Obligations.SentinelSlotIsIdleAndForwarded : Prop :=
  ∀ (s : State) (rst : Bool) (rest : List HostSlot), s.Inv → s.awaiting = [] →
    (s.script = ⟨rst, some .empty⟩ :: rest →
      ∃ t, step s = .next t ∧ t.datapath.valid = false ∧ t.readOut = none ∧ t.reporter = s.reporter ++ [.empty]) ∧
    (∀ code, s.script = ⟨rst, some (.error code)⟩ :: rest →
      ∃ t, step s = .next t ∧ t.datapath.valid = false ∧ t.readOut = none ∧ t.reporter = s.reporter ++ [.error code])

/-! ## Encodings -/

/-- Words written out from the fields of R70 (the programs of spec/95_test_vectors.md) select the cases they stand for. -/
def Obligations.WordsWrittenOutDecode : Prop :=
  let p1 : TxnIn Cfg.thisHardware := 0x33221100EFBEADDE00000000000F4240080000000123#624
  let p3 : TxnIn Cfg.thisHardware := 0x3F3E3D3C3B3A393837363534333231302F2E2D2C2B2A292827262524232221201F1E1D1C1B1A191817161514131211100F0E0D0C0B0A09080706050403020100FFFFFFFFFFFFFFFF0F1E001ABCDE#624
  decodeWord Cfg.thisHardware .classify p1 = .ok (.classifyStd ⟨8, 0x00⟩) ∧
  decodeWord Cfg.thisHardware .idFmt p1 = .ok (.idFmtStd ⟨8, 0x00⟩ 0x123#32) ∧
  decodeWord Cfg.thisHardware .dlcLen p1 = .ok (.dlc8 ⟨8, 0x08⟩) ∧
  decodeWord Cfg.thisHardware .tScale p1 = .ok (.tScale 1000000#64) ∧
  decodeWord Cfg.thisHardware .classify p3 = .ok (.classifyExt ⟨8, 0x1E⟩) ∧
  decodeWord Cfg.thisHardware .idFmt p3 = .ok (.idFmtExt ⟨8, 0x1E⟩ 0x1ABCDE#32) ∧
  decodeWord Cfg.thisHardware .dlcLen p3 = .ok (.dlc15 ⟨8, 0x0F⟩) ∧
  decodeWord Cfg.thisHardware .dataSel p3 =
    .ok (.dataSelBytes ⟨8, 0x1E⟩ ⟨8, 0x0F⟩ (Payload.ofBytes fun i => BitVec.ofNat 8 i))

/-- Decode and encode agree: every well-formed case, at every value of its fields and under every legal configuration, is
what its TXN_IN word decodes to; so are its bytes, 78 at this hardware's widths (the order of the bytes is the model's, log 17,
and so is the word's layout at other widths than R70's, log 1). -/
def Obligations.DecodeReadsBackEveryEncodedCase : Prop :=
  ∀ (c : Cfg) (i : Instr), c.legal = true → i.wf c = true →
    decodeWord c i.op (encode c i) = .ok i ∧ decodeBytes c i.op (encodeBytes c i) = .ok i

/-- TXN_IN is a faithful packing, at every port width (log 1 for those other than R70's): no field bit and no word bit is lost;
and at this hardware's widths each field stands at the word bits of R70. -/
def Obligations.TxnInPackingLosesNothing : Prop :=
  (∀ (c : Cfg) (r : RawIn), r.fits c = true → unpackTxnIn c (packTxnIn c r) = r) ∧
  (∀ (c : Cfg) (w : TxnIn c), packTxnIn c (unpackTxnIn c w) = w) ∧
  ∀ r : RawIn, r.fits Cfg.thisHardware = true →
    let w : BitVec 624 := packTxnIn Cfg.thisHardware r
    w.extractLsb' 0 32 = r.id ∧ r.flags = ⟨8, w.extractLsb' 32 8⟩ ∧ r.dlc = ⟨8, w.extractLsb' 40 8⟩ ∧
    w.extractLsb' 48 64 = r.ts ∧ ∀ i, i < 64 → w.extractLsb' (112 + 8 * i) 8 = r.payload.byte i

/-- TXN_OUT is a faithful packing, and each field stands at the word bits of R71. -/
def Obligations.TxnOutPackingLosesNothing : Prop :=
  (∀ o : DecOut, unpackTxnOut (packTxnOut o) = o) ∧ (∀ w : TxnOut, packTxnOut (unpackTxnOut w) = w) ∧
  ∀ o : DecOut,
    (packTxnOut o).extractLsb' 0 32 = o.id ∧ (packTxnOut o).extractLsb' 32 2 = o.type ∧
    (packTxnOut o).getLsbD 34 = o.dataRR ∧ (packTxnOut o).extractLsb' 35 7 = o.len ∧
    (packTxnOut o).extractLsb' 42 48 = o.dsec ∧ (packTxnOut o).extractLsb' 90 64 = o.byteEn ∧
    ∀ i, i < 64 → (packTxnOut o).extractLsb' (154 + 8 * i) 8 = o.payload.byte i

/-- The cases of each operation are disjoint and exhaustive (R80, R84, R120): every input record of the block's widths meets
exactly one row of each operation. (At DLC_W > 8 the last degraded row stands for every value from 0x80 up, log 1.) -/
def Obligations.EveryRecordSelectsExactlyOneRow : Prop :=
  ∀ (c : Cfg) (op : Op) (r : RawIn), c.legal = true → r.fits c = true →
    ((op.rows r).filter (·.wf c)).length = 1 ∧ ∃ i, caseOf c op r = some i ∧ i.op = op ∧ i.wf c = true

/-- Bytes that are not one TXN_IN word are rejected by name (R83: the format is fixed); the bytes of a word, 78 at this
hardware's widths, are always decoded (R80). Which byte is which is the model's (log 17). -/
def Obligations.OnlyTheFixedFormatIsDecoded : Prop :=
  txnInBytes Cfg.thisHardware = 78 ∧
  ∀ (c : Cfg) (op : Op) (bs : List Byte),
    (bs.length ≠ txnInBytes c → decodeBytes c op bs = .error (.notATxnInWord bs.length)) ∧
    (c.legal = true → bs.length = txnInBytes c → ∃ i, decodeBytes c op bs = .ok i ∧ i.op = op ∧ i.wf c = true)

/-! ## What the operations do: each completes, with the whole next state -/

/-- DECODE completes on every record and drives every port (R100), each in the closed form the spec gives it: the type is
`{rtr, ext}` (R121), the ID is masked by its domain (R140), the time is `⌊(ts + 50000) / 100000⌋` (R181), the enables are
the window of a data frame (R201), the payload passes through (R202). Nothing but the datapath's outputs changes. -/
def Obligations.DecodeDrivesEveryPort : Prop :=
  ∀ (s : State) (r : RawIn), ∃ o : DecOut,
    exec (.decode r) s = .next { s with datapath := ⟨true, o⟩ } ∧ o = decodeFrame s.cfg r ∧
    o.type = BitVec.ofBool (r.flags.bits.getLsbD s.cfg.rtrBit) ++ BitVec.ofBool (r.flags.bits.getLsbD s.cfg.extBit) ∧
    o.id = (if r.flags.bits.getLsbD s.cfg.extBit then r.id &&& s.cfg.extIdMask else (r.id.extractLsb' 0 11).setWidth 32) ∧
    o.len = dlcLen r.dlc.bits ∧
    o.dsec.toNat = (r.ts.toNat + 50000) / 100000 ∧
    o.dataRR = r.flags.bits.getLsbD s.cfg.rtrBit ∧
    (∀ i, i < 64 → o.byteEn.getLsbD i = (!r.flags.bits.getLsbD s.cfg.rtrBit && decide (i < (dlcLen r.dlc.bits).toNat))) ∧
    o.payload = r.payload

/-- The four cases of CLASSIFY complete on every flag word; each drives out.TYPE with its row's value (R120, R76) and nothing
else. That a case executed alone follows its row on every flag word, also on one its row does not match, and leaves VALID and the
other ports as they were, is the model's choice (log 4); a run reaches the cases only inside DECODE. -/
def Obligations.ClassifyCasesDriveTheType : Prop :=
  ∀ (s : State) (f : Flags),
    exec (.classifyStd f) s = .next { s with datapath := { s.datapath with data := { s.datapath.data with type := 0b00#2 } } } ∧
    exec (.classifyExt f) s = .next { s with datapath := { s.datapath with data := { s.datapath.data with type := 0b01#2 } } } ∧
    exec (.classifyRtrStd f) s = .next { s with datapath := { s.datapath with data := { s.datapath.data with type := 0b10#2 } } } ∧
    exec (.classifyRtrExt f) s = .next { s with datapath := { s.datapath with data := { s.datapath.data with type := 0b11#2 } } }

/-- The two cases of IDFMT complete on every flag word and ID; each drives out.ID with its row's value, the low 11 bits in the
standard domain (R141), the ID under EXT_ID_MASK in the extended one (R140), and nothing else. That a case executed alone follows
its row on every flag word, also one its row does not match, and leaves VALID and the other ports as they were, is the model's
choice (log 4). -/
def Obligations.IdFmtCasesDriveTheId : Prop :=
  ∀ (s : State) (f : Flags) (x : CanId),
    exec (.idFmtStd f x) s =
      .next { s with datapath := { s.datapath with data := { s.datapath.data with id := (x.extractLsb' 0 11).setWidth 32 } } } ∧
    exec (.idFmtExt f x) s =
      .next { s with datapath := { s.datapath with data := { s.datapath.data with id := x &&& s.cfg.extIdMask } } }

/-- The sixteen table rows of DLCLEN complete; each drives out.LEN with its entry of R160's table and nothing else. That a row
executed alone gives its entry for every DLC, also for one its row does not match, and leaves VALID and the other ports as they
were, is the model's choice (log 4). -/
def Obligations.DlcTableRowsDriveTheLength : Prop :=
  ∀ (s : State) (d : Dlc),
    let next (n : Len) : Host.Outcome State Fault Refusal :=
      .next { s with datapath := { s.datapath with data := { s.datapath.data with len := n } } }
    exec (.dlc0 d) s = next 0 ∧ exec (.dlc1 d) s = next 1 ∧ exec (.dlc2 d) s = next 2 ∧ exec (.dlc3 d) s = next 3 ∧
    exec (.dlc4 d) s = next 4 ∧ exec (.dlc5 d) s = next 5 ∧ exec (.dlc6 d) s = next 6 ∧ exec (.dlc7 d) s = next 7 ∧
    exec (.dlc8 d) s = next 8 ∧ exec (.dlc9 d) s = next 12 ∧ exec (.dlc10 d) s = next 16 ∧ exec (.dlc11 d) s = next 20 ∧
    exec (.dlc12 d) s = next 24 ∧ exec (.dlc13 d) s = next 32 ∧ exec (.dlc14 d) s = next 48 ∧ exec (.dlc15 d) s = next 64

/-- The four degraded rows of DLCLEN complete, no error; each drives out.LEN with 0 (R161) and nothing else. That a row executed
alone gives 0 for every DLC, also for one of 15 or below, and leaves VALID and the other ports as they were, is the model's choice
(log 4). -/
def Obligations.DegradedDlcRowsDriveLengthZero : Prop :=
  ∀ (s : State) (d : Dlc),
    let zero : Host.Outcome State Fault Refusal :=
      .next { s with datapath := { s.datapath with data := { s.datapath.data with len := 0 } } }
    exec (.dlcDegraded10 d) s = zero ∧ exec (.dlcDegraded20 d) s = zero ∧
    exec (.dlcDegraded40 d) s = zero ∧ exec (.dlcDegraded80 d) s = zero

/-- TSCALE completes on every tick count and drives out.DSEC with the tenths of a second, rounded half up (R180: quotient and
remainder by 100_000), and nothing else. That TSCALE can run alone (R309 has no operation but DECODE) and then leaves VALID and
every other port as they were is the model's choice (log 4). -/
def Obligations.TScaleDrivesTheTime : Prop :=
  ∀ (s : State) (ts : Ticks), ∃ d : Dsec,
    exec (.tScale ts) s = .next { s with datapath := { s.datapath with data := { s.datapath.data with dsec := d } } } ∧
    d.toNat = ts.toNat / 100000 + if ts.toNat % 100000 ≥ 50000 then 1 else 0

/-- The two cases of DATASEL complete and drive the three data ports and nothing else: a data frame enables the bytes below the
DLC's length (R201, R203), a remote frame enables none (R200, R201), both pass the payload (R202). That a case executed alone
follows its row on every flag word, also one its row does not match, and leaves VALID and the other ports as they were, is the
model's choice (log 4). -/
def Obligations.DataSelCasesDriveTheDataPorts : Prop :=
  ∀ (s : State) (f : Flags) (d : Dlc) (p : Payload),
    (∃ en : ByteEn,
      exec (.dataSelBytes f d p) s =
        .next { s with datapath := { s.datapath with data :=
          { s.datapath.data with dataRR := false, byteEn := en, payload := p } } } ∧
      ∀ i, i < 64 → en.getLsbD i = decide (i < (dlcLen d.bits).toNat)) ∧
    exec (.dataSelRr f d p) s =
      .next { s with datapath := { s.datapath with data :=
        { s.datapath.data with dataRR := true, byteEn := 0#64, payload := p } } }

/-- The frame of every operation: parameters, input ports, pipeline, host and observation are unchanged, and each of the five
operations leaves VALID and the ports of the others unchanged. That one of the five can be executed without the others, and what
it then leaves, is the model's choice (log 4); R102 says which operands each reads. -/
def Obligations.OperationsChangeOnlyTheirOwnPorts : Prop :=
  ∀ (i : Instr) (s t : State), exec i s = .next t →
    t.cfg = s.cfg ∧ t.rst = s.rst ∧ t.inp = s.inp ∧ t.pipe = s.pipe ∧ t.script = s.script ∧
    t.awaiting = s.awaiting ∧ t.reporter = s.reporter ∧ t.draws = s.draws ∧
    (i.op ≠ .decode → t.datapath.valid = s.datapath.valid ∧
      (i.op ≠ .classify → t.datapath.data.type = s.datapath.data.type) ∧
      (i.op ≠ .idFmt → t.datapath.data.id = s.datapath.data.id) ∧
      (i.op ≠ .dlcLen → t.datapath.data.len = s.datapath.data.len) ∧
      (i.op ≠ .tScale → t.datapath.data.dsec = s.datapath.data.dsec) ∧
      (i.op ≠ .dataSel → t.datapath.data.dataRR = s.datapath.data.dataRR ∧
        t.datapath.data.byteEn = s.datapath.data.byteEn ∧ t.datapath.data.payload = s.datapath.data.payload))

/-- DECODE is its five operations, each in the case the record selects, in any order (R102: "the evaluation order … is not
observable"), and then out.VALID. Executing the cases one by one is the model's way of saying it (log 4). -/
def Obligations.DecodeIsItsFiveCasesInAnyOrder : Prop :=
  ∀ (s : State) (r : RawIn) (ops : List Op), s.cfg.legal = true → r.fits s.cfg = true → ops.Perm Op.parallel →
    ∃ is t, casesOf s.cfg r ops = some is ∧ execAll is s = .next t ∧
      exec (.decode r) s = .next { t with datapath := { t.datapath with valid := true } }

/-! ## Rules about the values -/

/-- The type is the two flags (R121, R76). -/
def Obligations.ClassifyIsTheTwoFlags : Prop :=
  ∀ ext rtr : Bool, classify ext rtr = BitVec.ofBool rtr ++ BitVec.ofBool ext

/-- No flag but EXTENDED and REMOTE_REQUEST changes any output (R74, R81, R122, R162), at every width of the ports. -/
def Obligations.UnreadFlagsChangeNoOutput : Prop :=
  ∀ (c : Cfg) (r : RawIn) (f : Flags), sameReadFlags c r.flags f = true →
    decodeFrame c { r with flags := f } = decodeFrame c r

/-- Each output reads only the operands its operation reads (R84, R102): the type reads neither ID nor DLC (R123), the time
reads nothing but the ticks (R185), the length nothing but the DLC, and so on. -/
def Obligations.EachOutputReadsOnlyItsOperands : Prop :=
  ∀ (c : Cfg) (r q : RawIn),
    (r.flags = q.flags → (decodeFrame c r).type = (decodeFrame c q).type ∧
      (decodeFrame c r).dataRR = (decodeFrame c q).dataRR) ∧
    (r.flags = q.flags → r.id = q.id → (decodeFrame c r).id = (decodeFrame c q).id) ∧
    (r.dlc = q.dlc → (decodeFrame c r).len = (decodeFrame c q).len) ∧
    (r.flags = q.flags → r.dlc = q.dlc → (decodeFrame c r).byteEn = (decodeFrame c q).byteEn) ∧
    (r.ts = q.ts → (decodeFrame c r).dsec = (decodeFrame c q).dsec) ∧
    (r.payload = q.payload → (decodeFrame c r).payload = (decodeFrame c q).payload)

/-- A standard frame's ID is its low eleven bits, whatever the bits above (R141, R143). -/
def Obligations.StandardIdIsItsLowElevenBits : Prop :=
  ∀ (c : Cfg) (r : RawIn), r.flags.bits.getLsbD c.extBit = false →
    (decodeFrame c r).id = (r.id.extractLsb' 0 11).setWidth 32 ∧ (decodeFrame c r).id.toNat ≤ 0x7FF

/-- An extended frame's ID passes whole with this hardware's mask; with the other legal mask it loses bits 31:29; the two
agree on every ID of 29 bits (R142). -/
def Obligations.ExtendedIdPassesItsMask : Prop :=
  ∀ (c : Cfg) (r : RawIn), r.flags.bits.getLsbD c.extBit = true →
    (c.extIdMask = 0xFFFFFFFF#32 → (decodeFrame c r).id = r.id) ∧
    (c.extIdMask = 0x1FFFFFFF#32 → (decodeFrame c r).id = (r.id.extractLsb' 0 29).setWidth 32) ∧
    (c.legal = true → r.id.toNat ≤ 0x1FFFFFFF → (decodeFrame c r).id = r.id)

/-- The properties of the DLC table (R164), at every legal width of in.DLC. -/
def Obligations.DlcTableProperties : Prop :=
  ∀ (dw : Nat) (d e : BitVec dw), 4 ≤ dw →
    (d.toNat ≤ 8 → (dlcLen d).toNat = d.toNat) ∧ (16 ≤ d.toNat → dlcLen d = 0) ∧
    (d.toNat < e.toNat → e.toNat ≤ 15 → (dlcLen d).toNat < (dlcLen e).toNat) ∧
    (9 ≤ d.toNat → d.toNat ≤ 15 → (dlcLen d).toNat % 4 = 0) ∧ (dlcLen d).toNat ≤ 64

/-- The table of R160 itself, every row, and 0 for every other value of the port. -/
def Obligations.DlcTableIsReproducedExactly : Prop :=
  (List.range 16).map (fun k => (dlcLen (BitVec.ofNat 8 k)).toNat) =
    [0, 1, 2, 3, 4, 5, 6, 7, 8, 12, 16, 20, 24, 32, 48, 64] ∧
  ∀ d : BitVec 8, 16 ≤ d.toNat → dlcLen d = 0

/-- A degraded DLC changes only the length, to 0, and through it the byte enables (R103). -/
def Obligations.DegradedDlcChangesOnlyLengthAndWindow : Prop :=
  ∀ (c : Cfg) (r : RawIn) (d : Dlc), 15 < d.bits.toNat →
    (decodeFrame c { r with dlc := d }) = { decodeFrame c r with len := 0, byteEn := 0 }

/-- A frame that is both degraded and remote shows both (R304). -/
def Obligations.DegradedRemoteFrameShowsBoth : Prop :=
  ∀ (c : Cfg) (r : RawIn), 15 < r.dlc.bits.toNat → r.flags.bits.getLsbD c.rtrBit = true →
    (decodeFrame c r).dataRR = true ∧ (decodeFrame c r).len = 0 ∧ (decodeFrame c r).byteEn = 0

/-- The scaler gives the nearest tenth of a second, the larger one at an exact half (R181). -/
def Obligations.TScaleIsTheNearestTenth : Prop :=
  ∀ ts : Ticks,
    (tsScale ts).toNat = (ts.toNat + 50000) / 100000 ∧
    (∀ n : Nat, |((tsScale ts).toNat * 100000 : Int) - ts.toNat| ≤ |(n * 100000 : Int) - ts.toNat|) ∧
    (ts.toNat % 100000 = 50000 → (tsScale ts).toNat * 100000 = ts.toNat + 50000)

/-- The range of the scaler (R183): it never overflows, for every output is the exact quotient and carry of R180; the largest
output is that of the largest input, and it needs exactly 48 bits. -/
def Obligations.TScaleRange : Prop :=
  (∀ ts : Ticks,
    (tsScale ts).toNat = ts.toNat / 100000 + (if ts.toNat % 100000 ≥ 50000 then 1 else 0) ∧
    (tsScale ts).toNat ≤ (tsScale (BitVec.allOnes 64)).toNat) ∧
  (tsScale (BitVec.allOnes 64)).toNat = 184467440737096 ∧ 2 ^ 47 < 184467440737096 ∧ 184467440737096 < 2 ^ 48

/-- The byte enables, bit by bit: the first `len` bytes of a data frame and none of a remote frame, with `len` the table's
length of in.DLC (R201). -/
def Obligations.ByteEnablesAreTheWindow : Prop :=
  (∀ (rtr : Bool) (len : Len) (i : Nat), i < 64 →
    (byteEn rtr len).getLsbD i = (!rtr && decide (i < len.toNat))) ∧
  ∀ (c : Cfg) (r : RawIn) (i : Nat), i < 64 →
    (decodeFrame c r).byteEn.getLsbD i = (!r.flags.bits.getLsbD c.rtrBit && decide (i < (dlcLen r.dlc.bits).toNat))

/-- The remote short-circuit (R200): DATA_RR is the remote flag whatever the DLC, the payload and the domain, and the length
stays the table's. -/
def Obligations.RemoteFrameKeepsItsLength : Prop :=
  ∀ (c : Cfg) (r : RawIn),
    (decodeFrame c r).dataRR = r.flags.bits.getLsbD c.rtrBit ∧ (decodeFrame c r).len = dlcLen r.dlc.bits

/-- The output encodings never produced (R82). -/
def Obligations.UnproducedEncodingsNeverAppear : Prop :=
  ∀ (c : Cfg) (r : RawIn),
    (decodeFrame c r).len.toNat ≤ 64 ∧ (decodeFrame c r).dsec.toNat ≤ 184467440737096 ∧
    ∃ k, k ≤ 64 ∧ (decodeFrame c r).byteEn.toNat = 2 ^ k - 1

/-- Every payload byte passes through unchanged, whatever the remote flag and the length (R202). -/
def Obligations.PayloadPassesThroughUnchanged : Prop :=
  ∀ (s t : State) (r : RawIn) (i : Nat), exec (.decode r) s = .next t → i < 64 →
    t.datapath.data.payload.byte i = r.payload.byte i

/-- The payload over-read (R52, R203, R350): the window is the table's even when fewer bytes were received, and an enabled
byte at an index past the received count is an undefined value, whatever it is (the free value of log 9); a received byte is
shown as received. -/
def Obligations.EnabledBytesPastTheReceivedCountAreUndefined : Prop :=
  ∀ (s : State) (rst : Bool) (f : RawFrame) (rest : List HostSlot) (i : Nat),
    s.cfg.latency = 0 → s.script = ⟨rst, some (.frame f)⟩ :: rest → f.flags.bits.getLsbD s.cfg.rtrBit = false →
    i < (dlcLen f.dlc.bits).toNat →
    ∃ t, step s = .next t ∧ t.out.valid = true ∧ t.out.data.byteEn.getLsbD i = true ∧
      (∀ h : i < f.received.length, t.out.data.payload.byte i = f.received[i]) ∧
      (f.received.length ≤ i → t.out.data.payload.byte i = Config.freeByte s.draws i)

/-- The four pseudo-operations fix the flags byte (R86), so at this hardware's flag layout they have the four types. -/
def Obligations.PseudoOperationsHaveTheFourTypes : Prop :=
  ∀ (slot : Nat) (id : CanId) (dlc : Dlc) (ts : Ticks) (bs : List Byte),
    ∃ f₀ f₁ f₂ f₃ : RawFrame,
      decodeStd id dlc ts bs = .frame f₀ ∧ decodeExt id dlc ts bs = .frame f₁ ∧
      decodeRtrStd id dlc ts bs = .frame f₂ ∧ decodeRtrExt id dlc ts bs = .frame f₃ ∧
      f₀ = ⟨id, ⟨8, 0x00⟩, dlc, ts, bs⟩ ∧ f₁ = ⟨id, ⟨8, 0x02⟩, dlc, ts, bs⟩ ∧
      f₂ = ⟨id, ⟨8, 0x01⟩, dlc, ts, bs⟩ ∧ f₃ = ⟨id, ⟨8, 0x03⟩, dlc, ts, bs⟩ ∧
      (decodeFrame Cfg.thisHardware (f₀.toRaw slot)).type = 0b00#2 ∧
      (decodeFrame Cfg.thisHardware (f₁.toRaw slot)).type = 0b01#2 ∧
      (decodeFrame Cfg.thisHardware (f₂.toRaw slot)).type = 0b10#2 ∧
      (decodeFrame Cfg.thisHardware (f₃.toRaw slot)).type = 0b11#2

/-! ## Host-side text -/

/-- The four labels, character for character (R221). -/
def Obligations.TypeLabelsAreExact : Prop :=
  typeLabel 0b00#2 = "Standard Frame" ∧ typeLabel 0b01#2 = "Extended Frame" ∧
  typeLabel 0b10#2 = "RTR Frame (Standard ID)" ∧ typeLabel 0b11#2 = "RTR Frame (Extended ID)"

/-- The ID text is the uppercase hexadecimal numeral of the ID, most significant digit first, no prefix and no leading
zeros, "0" for zero (R222). -/
def Obligations.IdTextIsTheHexadecimalNumeral : Prop :=
  ∀ id : CanId, ∃ ds : List Nat,
    idText id = String.ofList (ds.map fun d => "0123456789ABCDEF".toList.getD d '?') ∧
    (∀ d ∈ ds, d < 16) ∧ Nat.ofDigits 16 ds.reverse = id.toNat ∧
    ds ≠ [] ∧ (ds.head? = some 0 → ds = [0])

/-- The time text is the decimal numeral of the seconds, a point, and one fractional digit (R224, R182). -/
def Obligations.TimeTextIsSecondsPointTenths : Prop :=
  ∀ t : Dsec, ∃ ds : List Nat,
    timeText t = String.ofList ((ds.map fun d => "0123456789".toList.getD d '?') ++
      ['.', "0123456789".toList.getD (t.toNat % 10) '?']) ∧
    (∀ d ∈ ds, d < 10) ∧ Nat.ofDigits 10 ds.reverse = t.toNat / 10 ∧
    ds ≠ [] ∧ (ds.head? = some 0 → ds = [0])

/-- The data text (R225): the literal for a remote frame; else the first `len` payload bytes, each in hexadecimal, one space
between; the empty string when there is none. Two digits a byte by default. -/
def Obligations.DataTextShowsTheWindow : Prop :=
  (∀ (pad : HexBytePad) (c : Cfg) (r : RawIn),
    (r.flags.bits.getLsbD c.rtrBit = true → dataText pad (decodeFrame c r) = "Remote Request") ∧
    (r.flags.bits.getLsbD c.rtrBit = false → dataText pad (decodeFrame c r) =
      joinSpace ((List.range (dlcLen r.dlc.bits).toNat).map fun i => hexByte pad (r.payload.byte i)))) ∧
  joinSpace [] = "" ∧ (∀ t, joinSpace [t] = t) ∧
  (∀ t u rest, joinSpace (t :: u :: rest) = t ++ " " ++ joinSpace (u :: rest)) ∧
  (∀ b : Byte, hexByte .twoDigit b = String.ofList
    ["0123456789ABCDEF".toList.getD (b.toNat / 16) '?', "0123456789ABCDEF".toList.getD (b.toNat % 16) '?']) ∧
  (∀ b : Byte, b.toNat < 16 → hexByte .minimal b = String.ofList ["0123456789ABCDEF".toList.getD b.toNat '?']) ∧
  ∀ b : Byte, 16 ≤ b.toNat → hexByte .minimal b = hexByte .twoDigit b

/-- The host renders each frame it reports with the text functions (R220, R226), the payload bytes as its parameter HEX_BYTE_PAD
says (R8, R225): at LATENCY = 0 a step that decodes a frame adds that frame's five texts, in the fields of R226, to the texts of
the frames before, and none for a sentinel. -/
def Obligations.HostRendersEachReportedFrame : Prop :=
  ∀ (s : State) (rst : Bool) (rest : List HostSlot), s.cfg.latency = 0 →
    (∀ f, s.script = ⟨rst, some (.frame f)⟩ :: rest →
      let o := decodeFrame s.cfg (f.toRaw s.draws)
      ∃ t, step s = .next t ∧
        t.texts = s.texts ++ [⟨typeLabel o.type, idText o.id, o.len.toNat, timeText o.dsec, dataText s.cfg.hexBytePad o⟩]) ∧
    (∀ res, s.script = ⟨rst, res⟩ :: rest → (∀ f, res ≠ some (.frame f)) → ∃ t, step s = .next t ∧ t.texts = s.texts)
end

