-- ==== Sys2Proof/Laws/Bits.lean ====
section
/-! SUPPORT. The bits of a packed word, the bytes of a payload, and when a number meets a row's match and mask. -/

namespace Sys2Proof

/-- Byte `i` of a payload built from its bytes. -/
@[simp] theorem Payload.byte_ofBytes (f : Nat → Byte) (i : Nat) (h : i < 64) : (Payload.ofBytes f).byte i = f i := by
  simp [Payload.byte, Payload.ofBytes, h]

/-- A payload is its bytes. -/
theorem Payload.ext_byte (p q : Payload) (h : ∀ i, i < 64 → p.byte i = q.byte i) : p = q := by
  apply Vector.ext
  intro i hi
  simpa [Payload.byte, hi] using h i hi

@[simp] theorem Payload.ofBytes_byte (p : Payload) : Payload.ofBytes p.byte = p := by
  apply Payload.ext_byte
  intro i hi
  rw [Payload.byte_ofBytes _ _ hi]

/-- The bits of packed bytes (spec/20_memory.md R51): bit `k` is bit `k mod 8` of byte `k / 8`. -/
theorem getLsbD_packBytes (w : Nat) (f : Nat → Byte) (n k : Nat) :
    (packBytes w f n).getLsbD k = (decide (k < w) && decide (k < 8 * n) && (f (k / 8)).getLsbD (k % 8)) := by
  induction n with
  | zero => simp [packBytes]
  | succ n ih =>
    simp only [packBytes, BitVec.getLsbD_or, ih, BitVec.getLsbD_shiftLeft, BitVec.getLsbD_setWidth]
    by_cases hw : k < w
    · by_cases h1 : k < 8 * n
      · have : k < 8 * (n + 1) := by omega
        simp [hw, h1, this]
      · by_cases h2 : k < 8 * (n + 1)
        · have hq : k / 8 = n := by omega
          have hr : k - 8 * n = k % 8 := by omega
          have hlt : k % 8 < w := by omega
          simp [hw, h1, h2, hq, hr, hlt]
        · have hge : 8 ≤ k - 8 * n := by omega
          have : (f n).getLsbD (k - 8 * n) = false := BitVec.getLsbD_of_ge _ _ hge
          simp [h1, h2, this]
    · simp [hw]

/-- A flag row's mask picks one bit. -/
theorem testBit_flagMask (n k : Nat) : (flagMask n).testBit k = decide (n = k) := by
  simp [flagMask, Nat.testBit_two_pow]

/-- A number meets a one-flag row with match 0 when the bit is clear. -/
theorem and_flagMask_eq_zero (f n : Nat) : ((f &&& flagMask n) == 0) = !f.testBit n := by
  rw [flagMask, Nat.and_two_pow]
  cases f.testBit n <;> simp

/-- A number meets a one-flag row whose match is the mask when the bit is set. -/
theorem and_flagMask_eq_self (f n : Nat) : ((f &&& flagMask n) == flagMask n) = f.testBit n := by
  have : 2 ^ n ≠ 0 := Nat.pos_iff_ne_zero.1 (Nat.two_pow_pos n)
  rw [flagMask, Nat.and_two_pow]
  cases f.testBit n <;> simp [this.symm]

/-- A number meets a two-flag row when both bits are as the match has them. -/
theorem and_two_flagMasks (f m a b : Nat) (hm : ∀ k, k ≠ a → k ≠ b → m.testBit k = false) :
    ((f &&& (flagMask a ||| flagMask b)) == m) = (f.testBit a == m.testBit a && f.testBit b == m.testBit b) := by
  rw [Bool.eq_iff_iff]
  simp only [beq_iff_eq, Bool.and_eq_true]
  constructor
  · rintro rfl
    simp [testBit_flagMask]
  · rintro ⟨h1, h2⟩
    apply Nat.eq_of_testBit_eq
    intro k
    simp only [Nat.testBit_and, Nat.testBit_or, testBit_flagMask]
    by_cases hka : k = a
    · subst hka; simp [h1]
    · by_cases hkb : k = b
      · subst hkb; simp [h2]
      · simp [hm k hka hkb, Ne.symm hka, Ne.symm hkb]

/-- What a DLC row's mask keeps of a value of `w` bits: everything from bit `j` up. -/
theorem and_high_mask (d w j : Nat) (hd : d < 2 ^ w) : d &&& (2 ^ w - 2 ^ j) = d / 2 ^ j * 2 ^ j := by
  by_cases hj : j ≤ w
  · have hm : 2 ^ w - 2 ^ j = (2 ^ (w - j) - 1) * 2 ^ j := by
      rw [Nat.sub_mul, ← Nat.pow_add, Nat.sub_add_cancel hj, Nat.one_mul]
    have hq : d / 2 ^ j < 2 ^ (w - j) := by
      rw [Nat.div_lt_iff_lt_mul (Nat.two_pow_pos j), ← Nat.pow_add, Nat.sub_add_cancel hj]
      exact hd
    apply Nat.eq_of_testBit_eq
    intro k
    rw [hm, Nat.testBit_and, ← Nat.shiftLeft_eq, ← Nat.shiftLeft_eq, Nat.testBit_shiftLeft, Nat.testBit_shiftLeft,
      ← Nat.shiftRight_eq_div_pow, Nat.testBit_shiftRight]
    by_cases hk : j ≤ k
    · have hjk : j + (k - j) = k := by omega
      rw [Nat.testBit_two_pow_sub_one, hjk]
      by_cases hkw : k - j < w - j
      · simp [hk, hkw]
      · have : d.testBit k = false :=
          Nat.testBit_lt_two_pow (Nat.lt_of_lt_of_le hd (Nat.pow_le_pow_right (by omega) (by omega)))
        simp [this]
    · simp [hk]
  · have hwj : 2 ^ w ≤ 2 ^ j := Nat.pow_le_pow_right (by omega) (by omega)
    rw [Nat.sub_eq_zero_of_le hwj, Nat.div_eq_of_lt (Nat.lt_of_lt_of_le hd hwj)]
    simp

/-- The record of a word has the block's widths (spec/10_state.md R27, R30). -/
@[simp] theorem unpackTxnIn_fits (c : Cfg) (w : TxnIn c) : (unpackTxnIn c w).fits c = true := by
  simp [RawIn.fits, unpackTxnIn]

/-- DECODE has one row, which every record of the block's widths meets (spec/30_encoding.md R80, R84). -/
theorem caseOf_decode (c : Cfg) (r : RawIn) (h : r.fits c = true) : caseOf c .decode r = some (.decode r) := by
  simp [caseOf, Op.rows, Instr.wf, Instr.fits, Instr.selector, Instr.mask, Instr.pattern, h]

/-- A word always decodes as DECODE of its record. -/
theorem decodeWord_decode (c : Cfg) (w : TxnIn c) : decodeWord c .decode w = .ok (.decode (unpackTxnIn c w)) := by
  simp [decodeWord, caseOf_decode]

/-- The host drives a record of the block's widths on an idle slot (log 8). -/
@[simp] theorem idleRaw_fits (c : Cfg) (slot : Nat) : (Machine.idleRaw c slot).fits c = true := by
  simp [RawIn.fits, Machine.idleRaw]

/-- The payload of a presented frame: a received byte, or an undefined one (spec/20_memory.md R52). -/
theorem toRaw_payload_byte (slot : Nat) (f : Machine.RawFrame) (i : Nat) (h : i < 64) :
    (f.toRaw slot).payload.byte i = f.received[i]?.getD (Config.freeByte slot i) := by
  simp [Machine.RawFrame.toRaw, Payload.byte_ofBytes, h]

/-- A frame of 64 received bytes presents exactly its record. -/
@[simp] theorem toRaw_ofRaw (slot : Nat) (r : RawIn) : (Machine.RawFrame.ofRaw r).toRaw slot = r := by
  have hp : (Payload.ofBytes fun i => r.payload.toList[i]?.getD (Config.freeByte slot i)) = r.payload := by
    apply Payload.ext_byte
    intro i hi
    rw [Payload.byte_ofBytes _ _ hi]
    simp [Payload.byte, hi]
  simp only [Machine.RawFrame.toRaw, Machine.RawFrame.ofRaw, hp]

end Sys2Proof
end

