-- ==== Sys2Proof/Laws/State.lean ====
section
/-! SUPPORT. One lemma for each field and each update of State, true by rfl, so that no later proof unfolds a record update. -/

namespace Sys2Proof.Machine

/-! ### driveType -/

@[simp] theorem driveType_cfg (v : BitVec 2) (s : State) : (s.driveType v).cfg = s.cfg := rfl
@[simp] theorem driveType_rst (v : BitVec 2) (s : State) : (s.driveType v).rst = s.rst := rfl
@[simp] theorem driveType_inp (v : BitVec 2) (s : State) : (s.driveType v).inp = s.inp := rfl
@[simp] theorem driveType_pipe (v : BitVec 2) (s : State) : (s.driveType v).pipe = s.pipe := rfl
@[simp] theorem driveType_script (v : BitVec 2) (s : State) : (s.driveType v).script = s.script := rfl
@[simp] theorem driveType_awaiting (v : BitVec 2) (s : State) : (s.driveType v).awaiting = s.awaiting := rfl
@[simp] theorem driveType_reporter (v : BitVec 2) (s : State) : (s.driveType v).reporter = s.reporter := rfl
@[simp] theorem driveType_draws (v : BitVec 2) (s : State) : (s.driveType v).draws = s.draws := rfl
@[simp] theorem driveType_valid (v : BitVec 2) (s : State) : (s.driveType v).datapath.valid = s.datapath.valid := rfl
@[simp] theorem driveType_type (v : BitVec 2) (s : State) : (s.driveType v).datapath.data.type = v := rfl
@[simp] theorem driveType_id (v : BitVec 2) (s : State) : (s.driveType v).datapath.data.id = s.datapath.data.id := rfl
@[simp] theorem driveType_len (v : BitVec 2) (s : State) : (s.driveType v).datapath.data.len = s.datapath.data.len := rfl
@[simp] theorem driveType_dsec (v : BitVec 2) (s : State) : (s.driveType v).datapath.data.dsec = s.datapath.data.dsec := rfl
@[simp] theorem driveType_dataRR (v : BitVec 2) (s : State) : (s.driveType v).datapath.data.dataRR = s.datapath.data.dataRR := rfl
@[simp] theorem driveType_byteEn (v : BitVec 2) (s : State) : (s.driveType v).datapath.data.byteEn = s.datapath.data.byteEn := rfl
@[simp] theorem driveType_payload (v : BitVec 2) (s : State) : (s.driveType v).datapath.data.payload = s.datapath.data.payload := rfl

/-! ### driveId -/

@[simp] theorem driveId_cfg (v : CanId) (s : State) : (s.driveId v).cfg = s.cfg := rfl
@[simp] theorem driveId_rst (v : CanId) (s : State) : (s.driveId v).rst = s.rst := rfl
@[simp] theorem driveId_inp (v : CanId) (s : State) : (s.driveId v).inp = s.inp := rfl
@[simp] theorem driveId_pipe (v : CanId) (s : State) : (s.driveId v).pipe = s.pipe := rfl
@[simp] theorem driveId_script (v : CanId) (s : State) : (s.driveId v).script = s.script := rfl
@[simp] theorem driveId_awaiting (v : CanId) (s : State) : (s.driveId v).awaiting = s.awaiting := rfl
@[simp] theorem driveId_reporter (v : CanId) (s : State) : (s.driveId v).reporter = s.reporter := rfl
@[simp] theorem driveId_draws (v : CanId) (s : State) : (s.driveId v).draws = s.draws := rfl
@[simp] theorem driveId_valid (v : CanId) (s : State) : (s.driveId v).datapath.valid = s.datapath.valid := rfl
@[simp] theorem driveId_type (v : CanId) (s : State) : (s.driveId v).datapath.data.type = s.datapath.data.type := rfl
@[simp] theorem driveId_id (v : CanId) (s : State) : (s.driveId v).datapath.data.id = v := rfl
@[simp] theorem driveId_len (v : CanId) (s : State) : (s.driveId v).datapath.data.len = s.datapath.data.len := rfl
@[simp] theorem driveId_dsec (v : CanId) (s : State) : (s.driveId v).datapath.data.dsec = s.datapath.data.dsec := rfl
@[simp] theorem driveId_dataRR (v : CanId) (s : State) : (s.driveId v).datapath.data.dataRR = s.datapath.data.dataRR := rfl
@[simp] theorem driveId_byteEn (v : CanId) (s : State) : (s.driveId v).datapath.data.byteEn = s.datapath.data.byteEn := rfl
@[simp] theorem driveId_payload (v : CanId) (s : State) : (s.driveId v).datapath.data.payload = s.datapath.data.payload := rfl

/-! ### driveLen -/

@[simp] theorem driveLen_cfg (v : Len) (s : State) : (s.driveLen v).cfg = s.cfg := rfl
@[simp] theorem driveLen_rst (v : Len) (s : State) : (s.driveLen v).rst = s.rst := rfl
@[simp] theorem driveLen_inp (v : Len) (s : State) : (s.driveLen v).inp = s.inp := rfl
@[simp] theorem driveLen_pipe (v : Len) (s : State) : (s.driveLen v).pipe = s.pipe := rfl
@[simp] theorem driveLen_script (v : Len) (s : State) : (s.driveLen v).script = s.script := rfl
@[simp] theorem driveLen_awaiting (v : Len) (s : State) : (s.driveLen v).awaiting = s.awaiting := rfl
@[simp] theorem driveLen_reporter (v : Len) (s : State) : (s.driveLen v).reporter = s.reporter := rfl
@[simp] theorem driveLen_draws (v : Len) (s : State) : (s.driveLen v).draws = s.draws := rfl
@[simp] theorem driveLen_valid (v : Len) (s : State) : (s.driveLen v).datapath.valid = s.datapath.valid := rfl
@[simp] theorem driveLen_type (v : Len) (s : State) : (s.driveLen v).datapath.data.type = s.datapath.data.type := rfl
@[simp] theorem driveLen_id (v : Len) (s : State) : (s.driveLen v).datapath.data.id = s.datapath.data.id := rfl
@[simp] theorem driveLen_len (v : Len) (s : State) : (s.driveLen v).datapath.data.len = v := rfl
@[simp] theorem driveLen_dsec (v : Len) (s : State) : (s.driveLen v).datapath.data.dsec = s.datapath.data.dsec := rfl
@[simp] theorem driveLen_dataRR (v : Len) (s : State) : (s.driveLen v).datapath.data.dataRR = s.datapath.data.dataRR := rfl
@[simp] theorem driveLen_byteEn (v : Len) (s : State) : (s.driveLen v).datapath.data.byteEn = s.datapath.data.byteEn := rfl
@[simp] theorem driveLen_payload (v : Len) (s : State) : (s.driveLen v).datapath.data.payload = s.datapath.data.payload := rfl

/-! ### driveDsec -/

@[simp] theorem driveDsec_cfg (v : Dsec) (s : State) : (s.driveDsec v).cfg = s.cfg := rfl
@[simp] theorem driveDsec_rst (v : Dsec) (s : State) : (s.driveDsec v).rst = s.rst := rfl
@[simp] theorem driveDsec_inp (v : Dsec) (s : State) : (s.driveDsec v).inp = s.inp := rfl
@[simp] theorem driveDsec_pipe (v : Dsec) (s : State) : (s.driveDsec v).pipe = s.pipe := rfl
@[simp] theorem driveDsec_script (v : Dsec) (s : State) : (s.driveDsec v).script = s.script := rfl
@[simp] theorem driveDsec_awaiting (v : Dsec) (s : State) : (s.driveDsec v).awaiting = s.awaiting := rfl
@[simp] theorem driveDsec_reporter (v : Dsec) (s : State) : (s.driveDsec v).reporter = s.reporter := rfl
@[simp] theorem driveDsec_draws (v : Dsec) (s : State) : (s.driveDsec v).draws = s.draws := rfl
@[simp] theorem driveDsec_valid (v : Dsec) (s : State) : (s.driveDsec v).datapath.valid = s.datapath.valid := rfl
@[simp] theorem driveDsec_type (v : Dsec) (s : State) : (s.driveDsec v).datapath.data.type = s.datapath.data.type := rfl
@[simp] theorem driveDsec_id (v : Dsec) (s : State) : (s.driveDsec v).datapath.data.id = s.datapath.data.id := rfl
@[simp] theorem driveDsec_len (v : Dsec) (s : State) : (s.driveDsec v).datapath.data.len = s.datapath.data.len := rfl
@[simp] theorem driveDsec_dsec (v : Dsec) (s : State) : (s.driveDsec v).datapath.data.dsec = v := rfl
@[simp] theorem driveDsec_dataRR (v : Dsec) (s : State) : (s.driveDsec v).datapath.data.dataRR = s.datapath.data.dataRR := rfl
@[simp] theorem driveDsec_byteEn (v : Dsec) (s : State) : (s.driveDsec v).datapath.data.byteEn = s.datapath.data.byteEn := rfl
@[simp] theorem driveDsec_payload (v : Dsec) (s : State) : (s.driveDsec v).datapath.data.payload = s.datapath.data.payload := rfl

/-! ### driveDataRR -/

@[simp] theorem driveDataRR_cfg (v : Bool) (s : State) : (s.driveDataRR v).cfg = s.cfg := rfl
@[simp] theorem driveDataRR_rst (v : Bool) (s : State) : (s.driveDataRR v).rst = s.rst := rfl
@[simp] theorem driveDataRR_inp (v : Bool) (s : State) : (s.driveDataRR v).inp = s.inp := rfl
@[simp] theorem driveDataRR_pipe (v : Bool) (s : State) : (s.driveDataRR v).pipe = s.pipe := rfl
@[simp] theorem driveDataRR_script (v : Bool) (s : State) : (s.driveDataRR v).script = s.script := rfl
@[simp] theorem driveDataRR_awaiting (v : Bool) (s : State) : (s.driveDataRR v).awaiting = s.awaiting := rfl
@[simp] theorem driveDataRR_reporter (v : Bool) (s : State) : (s.driveDataRR v).reporter = s.reporter := rfl
@[simp] theorem driveDataRR_draws (v : Bool) (s : State) : (s.driveDataRR v).draws = s.draws := rfl
@[simp] theorem driveDataRR_valid (v : Bool) (s : State) : (s.driveDataRR v).datapath.valid = s.datapath.valid := rfl
@[simp] theorem driveDataRR_type (v : Bool) (s : State) : (s.driveDataRR v).datapath.data.type = s.datapath.data.type := rfl
@[simp] theorem driveDataRR_id (v : Bool) (s : State) : (s.driveDataRR v).datapath.data.id = s.datapath.data.id := rfl
@[simp] theorem driveDataRR_len (v : Bool) (s : State) : (s.driveDataRR v).datapath.data.len = s.datapath.data.len := rfl
@[simp] theorem driveDataRR_dsec (v : Bool) (s : State) : (s.driveDataRR v).datapath.data.dsec = s.datapath.data.dsec := rfl
@[simp] theorem driveDataRR_dataRR (v : Bool) (s : State) : (s.driveDataRR v).datapath.data.dataRR = v := rfl
@[simp] theorem driveDataRR_byteEn (v : Bool) (s : State) : (s.driveDataRR v).datapath.data.byteEn = s.datapath.data.byteEn := rfl
@[simp] theorem driveDataRR_payload (v : Bool) (s : State) : (s.driveDataRR v).datapath.data.payload = s.datapath.data.payload := rfl

/-! ### driveByteEn -/

@[simp] theorem driveByteEn_cfg (v : ByteEn) (s : State) : (s.driveByteEn v).cfg = s.cfg := rfl
@[simp] theorem driveByteEn_rst (v : ByteEn) (s : State) : (s.driveByteEn v).rst = s.rst := rfl
@[simp] theorem driveByteEn_inp (v : ByteEn) (s : State) : (s.driveByteEn v).inp = s.inp := rfl
@[simp] theorem driveByteEn_pipe (v : ByteEn) (s : State) : (s.driveByteEn v).pipe = s.pipe := rfl
@[simp] theorem driveByteEn_script (v : ByteEn) (s : State) : (s.driveByteEn v).script = s.script := rfl
@[simp] theorem driveByteEn_awaiting (v : ByteEn) (s : State) : (s.driveByteEn v).awaiting = s.awaiting := rfl
@[simp] theorem driveByteEn_reporter (v : ByteEn) (s : State) : (s.driveByteEn v).reporter = s.reporter := rfl
@[simp] theorem driveByteEn_draws (v : ByteEn) (s : State) : (s.driveByteEn v).draws = s.draws := rfl
@[simp] theorem driveByteEn_valid (v : ByteEn) (s : State) : (s.driveByteEn v).datapath.valid = s.datapath.valid := rfl
@[simp] theorem driveByteEn_type (v : ByteEn) (s : State) : (s.driveByteEn v).datapath.data.type = s.datapath.data.type := rfl
@[simp] theorem driveByteEn_id (v : ByteEn) (s : State) : (s.driveByteEn v).datapath.data.id = s.datapath.data.id := rfl
@[simp] theorem driveByteEn_len (v : ByteEn) (s : State) : (s.driveByteEn v).datapath.data.len = s.datapath.data.len := rfl
@[simp] theorem driveByteEn_dsec (v : ByteEn) (s : State) : (s.driveByteEn v).datapath.data.dsec = s.datapath.data.dsec := rfl
@[simp] theorem driveByteEn_dataRR (v : ByteEn) (s : State) : (s.driveByteEn v).datapath.data.dataRR = s.datapath.data.dataRR := rfl
@[simp] theorem driveByteEn_byteEn (v : ByteEn) (s : State) : (s.driveByteEn v).datapath.data.byteEn = v := rfl
@[simp] theorem driveByteEn_payload (v : ByteEn) (s : State) : (s.driveByteEn v).datapath.data.payload = s.datapath.data.payload := rfl

/-! ### drivePayload -/

@[simp] theorem drivePayload_cfg (v : Payload) (s : State) : (s.drivePayload v).cfg = s.cfg := rfl
@[simp] theorem drivePayload_rst (v : Payload) (s : State) : (s.drivePayload v).rst = s.rst := rfl
@[simp] theorem drivePayload_inp (v : Payload) (s : State) : (s.drivePayload v).inp = s.inp := rfl
@[simp] theorem drivePayload_pipe (v : Payload) (s : State) : (s.drivePayload v).pipe = s.pipe := rfl
@[simp] theorem drivePayload_script (v : Payload) (s : State) : (s.drivePayload v).script = s.script := rfl
@[simp] theorem drivePayload_awaiting (v : Payload) (s : State) : (s.drivePayload v).awaiting = s.awaiting := rfl
@[simp] theorem drivePayload_reporter (v : Payload) (s : State) : (s.drivePayload v).reporter = s.reporter := rfl
@[simp] theorem drivePayload_draws (v : Payload) (s : State) : (s.drivePayload v).draws = s.draws := rfl
@[simp] theorem drivePayload_valid (v : Payload) (s : State) : (s.drivePayload v).datapath.valid = s.datapath.valid := rfl
@[simp] theorem drivePayload_type (v : Payload) (s : State) : (s.drivePayload v).datapath.data.type = s.datapath.data.type := rfl
@[simp] theorem drivePayload_id (v : Payload) (s : State) : (s.drivePayload v).datapath.data.id = s.datapath.data.id := rfl
@[simp] theorem drivePayload_len (v : Payload) (s : State) : (s.drivePayload v).datapath.data.len = s.datapath.data.len := rfl
@[simp] theorem drivePayload_dsec (v : Payload) (s : State) : (s.drivePayload v).datapath.data.dsec = s.datapath.data.dsec := rfl
@[simp] theorem drivePayload_dataRR (v : Payload) (s : State) : (s.drivePayload v).datapath.data.dataRR = s.datapath.data.dataRR := rfl
@[simp] theorem drivePayload_byteEn (v : Payload) (s : State) : (s.drivePayload v).datapath.data.byteEn = s.datapath.data.byteEn := rfl
@[simp] theorem drivePayload_payload (v : Payload) (s : State) : (s.drivePayload v).datapath.data.payload = v := rfl

/-! ### driveAll -/

@[simp] theorem driveAll_cfg (o : DecOut) (s : State) : (s.driveAll o).cfg = s.cfg := rfl
@[simp] theorem driveAll_rst (o : DecOut) (s : State) : (s.driveAll o).rst = s.rst := rfl
@[simp] theorem driveAll_inp (o : DecOut) (s : State) : (s.driveAll o).inp = s.inp := rfl
@[simp] theorem driveAll_pipe (o : DecOut) (s : State) : (s.driveAll o).pipe = s.pipe := rfl
@[simp] theorem driveAll_script (o : DecOut) (s : State) : (s.driveAll o).script = s.script := rfl
@[simp] theorem driveAll_awaiting (o : DecOut) (s : State) : (s.driveAll o).awaiting = s.awaiting := rfl
@[simp] theorem driveAll_reporter (o : DecOut) (s : State) : (s.driveAll o).reporter = s.reporter := rfl
@[simp] theorem driveAll_draws (o : DecOut) (s : State) : (s.driveAll o).draws = s.draws := rfl
@[simp] theorem driveAll_datapath (o : DecOut) (s : State) : (s.driveAll o).datapath = ⟨true, o⟩ := rfl

/-! ### shift -/

@[simp] theorem shift_cfg (s : State) : s.shift.cfg = s.cfg := rfl
@[simp] theorem shift_rst (s : State) : s.shift.rst = s.rst := rfl
@[simp] theorem shift_inp (s : State) : s.shift.inp = s.inp := rfl
@[simp] theorem shift_datapath (s : State) : s.shift.datapath = bubble s.draws 0 := rfl
@[simp] theorem shift_pipe (s : State) : s.shift.pipe = (s.datapath :: s.pipe).take s.cfg.latency := rfl
@[simp] theorem shift_script (s : State) : s.shift.script = s.script := rfl
@[simp] theorem shift_awaiting (s : State) : s.shift.awaiting = s.awaiting := rfl
@[simp] theorem shift_reporter (s : State) : s.shift.reporter = s.reporter := rfl
@[simp] theorem shift_draws (s : State) : s.shift.draws = s.draws + 1 := rfl

/-! ### clearPipe -/

@[simp] theorem clearPipe_cfg (s : State) : s.clearPipe.cfg = s.cfg := rfl
@[simp] theorem clearPipe_rst (s : State) : s.clearPipe.rst = s.rst := rfl
@[simp] theorem clearPipe_inp (s : State) : s.clearPipe.inp = s.inp := rfl
@[simp] theorem clearPipe_datapath (s : State) : s.clearPipe.datapath = bubble s.draws 0 := rfl
@[simp] theorem clearPipe_pipe (s : State) : s.clearPipe.pipe = (List.range s.cfg.latency).map fun k => bubble s.draws (k + 1) := rfl
@[simp] theorem clearPipe_script (s : State) : s.clearPipe.script = s.script := rfl
@[simp] theorem clearPipe_awaiting (s : State) : s.clearPipe.awaiting = s.awaiting := rfl
@[simp] theorem clearPipe_reporter (s : State) : s.clearPipe.reporter = s.reporter := rfl
@[simp] theorem clearPipe_draws (s : State) : s.clearPipe.draws = s.draws + 1 := rfl

/-! ### forgetTransactions -/

@[simp] theorem forgetTransactions_cfg (s : State) : s.forgetTransactions.cfg = s.cfg := rfl
@[simp] theorem forgetTransactions_rst (s : State) : s.forgetTransactions.rst = s.rst := rfl
@[simp] theorem forgetTransactions_inp (s : State) : s.forgetTransactions.inp = s.inp := rfl
@[simp] theorem forgetTransactions_datapath (s : State) : s.forgetTransactions.datapath = s.datapath := rfl
@[simp] theorem forgetTransactions_pipe (s : State) : s.forgetTransactions.pipe = s.pipe := rfl
@[simp] theorem forgetTransactions_script (s : State) : s.forgetTransactions.script = s.script := rfl
@[simp] theorem forgetTransactions_awaiting (s : State) : s.forgetTransactions.awaiting = s.awaiting.filter (· != .transaction) := rfl
@[simp] theorem forgetTransactions_reporter (s : State) : s.forgetTransactions.reporter = s.reporter := rfl
@[simp] theorem forgetTransactions_draws (s : State) : s.forgetTransactions.draws = s.draws := rfl

/-! ### reportSentinels -/

@[simp] theorem reportSentinels_cfg (s : State) : s.reportSentinels.cfg = s.cfg := rfl
@[simp] theorem reportSentinels_rst (s : State) : s.reportSentinels.rst = s.rst := rfl
@[simp] theorem reportSentinels_inp (s : State) : s.reportSentinels.inp = s.inp := rfl
@[simp] theorem reportSentinels_datapath (s : State) : s.reportSentinels.datapath = s.datapath := rfl
@[simp] theorem reportSentinels_pipe (s : State) : s.reportSentinels.pipe = s.pipe := rfl
@[simp] theorem reportSentinels_script (s : State) : s.reportSentinels.script = s.script := rfl
@[simp] theorem reportSentinels_awaiting (s : State) : s.reportSentinels.awaiting = fromTransaction s.awaiting := rfl
@[simp] theorem reportSentinels_reporter (s : State) : s.reportSentinels.reporter = s.reporter ++ leadingSentinels s.awaiting := rfl
@[simp] theorem reportSentinels_draws (s : State) : s.reportSentinels.draws = s.draws := rfl

@[simp] theorem bubble_valid (slot place : Nat) : (bubble slot place).valid = false := rfl

end Sys2Proof.Machine
end

