-- ==== Sys2Proof/Laws/Ops.lean ====
section
/-! SUPPORT. What each shared operation can do, said once: the pipeline's clock, the host's two halves of a slot, the fetch,
and what an instruction can change. -/

namespace Sys2Proof.Machine

/-! ### The output ports -/

theorem out_of_no_pipe (s : State) (h : s.pipe = []) : s.out = s.datapath := by simp [State.out, h]

theorem out_mem (s : State) : s.out ∈ s.datapath :: s.pipe := by
  unfold State.out
  cases h : s.pipe.getLast? with
  | none => simp
  | some g => simpa using Or.inr (List.mem_of_getLast? h)

theorem readOut_eq_some (s : State) (o : DecOut) : s.readOut = some o ↔ s.out = ⟨true, o⟩ := by
  unfold State.readOut
  cases s.out with
  | mk v d => cases v <;> simp

theorem readOut_eq_none (s : State) : s.readOut = none ↔ s.out.valid = false := by
  unfold State.readOut
  cases s.out.valid <;> simp

/-! ### The host presents -/

/-- Presenting changes the script, the reset line, the input ports and the awaited results, and nothing else. -/
theorem present_frame (s : State) :
    s.present.cfg = s.cfg ∧ s.present.datapath = s.datapath ∧ s.present.pipe = s.pipe ∧
      s.present.reporter = s.reporter ∧ s.present.draws = s.draws := by
  unfold State.present
  split <;> simp

@[simp] theorem present_cfg (s : State) : s.present.cfg = s.cfg := (present_frame s).1
@[simp] theorem present_datapath (s : State) : s.present.datapath = s.datapath := (present_frame s).2.1
@[simp] theorem present_pipe (s : State) : s.present.pipe = s.pipe := (present_frame s).2.2.1
@[simp] theorem present_reporter (s : State) : s.present.reporter = s.reporter := (present_frame s).2.2.2.1
@[simp] theorem present_draws (s : State) : s.present.draws = s.draws := (present_frame s).2.2.2.2

theorem present_nil (s : State) (h : s.script = []) :
    s.present = { s with rst := false, inp := ⟨false, idleRaw s.cfg s.draws⟩ } := by
  simp [State.present, h, portsOf]

theorem present_cons (s : State) (slot : HostSlot) (rest : List HostSlot) (h : s.script = slot :: rest) :
    s.present = { s with
      script := rest, rst := slot.rst, inp := portsOf s.cfg s.draws slot.result
      awaiting := s.awaiting ++ (slot.result.map awaitedOf).toList } := by
  simp [State.present, h]

/-- Only a raw frame is presented as a transaction (spec/10_state.md R29). -/
theorem portsOf_valid (c : Cfg) (slot : Nat) (r : Option AdapterResult) :
    (portsOf c slot r).valid = true ↔ ∃ f, r = some (.frame f) := by
  rcases r with _ | (f | _ | code) <;> simp [portsOf]

/-! ### The clock -/

theorem clock_of_reset (s : State) (h : s.pipeReset = true) : s.clock = s.clearPipe.forgetTransactions := by
  simp [State.clock, h]

theorem clock_of_no_reset (s : State) (h : s.pipeReset = false) : s.clock = s.shift := by
  simp [State.clock, h]

theorem pipeReset_of_latency_zero (s : State) (h : s.cfg.latency = 0) : s.pipeReset = false := by
  simp [State.pipeReset, h]

/-- The clock changes the datapath, the pipeline, the awaited results and the slot number, and nothing else. -/
theorem clock_frame (s : State) :
    s.clock.cfg = s.cfg ∧ s.clock.rst = s.rst ∧ s.clock.inp = s.inp ∧ s.clock.script = s.script ∧
      s.clock.reporter = s.reporter ∧ s.clock.draws = s.draws + 1 ∧ s.clock.datapath = bubble s.draws 0 := by
  unfold State.clock
  split <;> simp

@[simp] theorem clock_cfg (s : State) : s.clock.cfg = s.cfg := (clock_frame s).1
@[simp] theorem clock_rst (s : State) : s.clock.rst = s.rst := (clock_frame s).2.1
@[simp] theorem clock_inp (s : State) : s.clock.inp = s.inp := (clock_frame s).2.2.1
@[simp] theorem clock_script (s : State) : s.clock.script = s.script := (clock_frame s).2.2.2.1
@[simp] theorem clock_reporter (s : State) : s.clock.reporter = s.reporter := (clock_frame s).2.2.2.2.1
@[simp] theorem clock_draws (s : State) : s.clock.draws = s.draws + 1 := (clock_frame s).2.2.2.2.2.1
@[simp] theorem clock_datapath (s : State) : s.clock.datapath = bubble s.draws 0 := (clock_frame s).2.2.2.2.2.2

@[simp] theorem clock_pipeReset (s : State) : s.clock.pipeReset = s.pipeReset := by simp [State.pipeReset]

/-! ### Fetch and execution -/

/-- What is fetched is DECODE of the record on the input ports, of a valid slot in which no reset acts. -/
theorem fetch_eq_some (s : State) (i : Instr) :
    s.fetch = some i ↔ s.pipeReset = false ∧ s.inp.valid = true ∧ i = .decode s.inp.raw := by
  unfold State.fetch decodePorts
  cases s.pipeReset <;> cases s.inp.valid <;> simp [eq_comm]

theorem fetch_eq_none (s : State) : s.fetch = none ↔ s.pipeReset = true ∨ s.inp.valid = false := by
  unfold State.fetch decodePorts
  cases s.pipeReset <;> cases s.inp.valid <;> simp

/-- DECODE replaces the datapath's place, whole. -/
theorem execDecode_eq (r : RawIn) (s : State) :
    execDecode r s = .next { s with datapath := ⟨true, decodeFrame s.cfg r⟩ } := rfl

/-- Every instruction completes, and changes at most the datapath's place. -/
theorem exec_changes_datapath (i : Instr) (s : State) : ∃ g, exec i s = .next { s with datapath := g } := by
  cases i <;> exact ⟨_, rfl⟩

/-! ### The host reports -/

theorem reportFrame_of_none (s : State) (h : s.readOut = none) : s.reportFrame = s := by
  simp [State.reportFrame, h]

theorem reportFrame_of_some (s : State) (o : DecOut) (h : s.readOut = some o) :
    s.reportFrame = { s with reporter := s.reporter ++ [.frame o], awaiting := s.awaiting.drop 1 } := by
  simp [State.reportFrame, h]

/-- Reporting changes the awaited results and the Reporter's events, and nothing else. -/
theorem report_frame (s : State) :
    s.report.cfg = s.cfg ∧ s.report.rst = s.rst ∧ s.report.inp = s.inp ∧ s.report.datapath = s.datapath ∧
      s.report.pipe = s.pipe ∧ s.report.script = s.script ∧ s.report.draws = s.draws := by
  unfold State.report State.reportFrame
  split <;> simp

@[simp] theorem report_cfg (s : State) : s.report.cfg = s.cfg := (report_frame s).1
@[simp] theorem report_rst (s : State) : s.report.rst = s.rst := (report_frame s).2.1
@[simp] theorem report_inp (s : State) : s.report.inp = s.inp := (report_frame s).2.2.1
@[simp] theorem report_datapath (s : State) : s.report.datapath = s.datapath := (report_frame s).2.2.2.1
@[simp] theorem report_pipe (s : State) : s.report.pipe = s.pipe := (report_frame s).2.2.2.2.1
@[simp] theorem report_script (s : State) : s.report.script = s.script := (report_frame s).2.2.2.2.2.1
@[simp] theorem report_draws (s : State) : s.report.draws = s.draws := (report_frame s).2.2.2.2.2.2

@[simp] theorem report_out (s : State) : s.report.out = s.out := by simp [State.out]
@[simp] theorem report_readOut (s : State) : s.report.readOut = s.readOut := by simp [State.readOut]

theorem leadingSentinels_append_transaction (ws us : List Awaited) :
    leadingSentinels (ws ++ .transaction :: us) = leadingSentinels (ws ++ [.transaction]) := by
  induction ws with
  | nil => rfl
  | cons w ws ih => cases w <;> simp [leadingSentinels, ih]

/-- A list that starts with a transaction is held whole. -/
theorem fromTransaction_head (ws : List Awaited) :
    (fromTransaction ws).head? = none ∨ (fromTransaction ws).head? = some .transaction := by
  induction ws with
  | nil => simp [fromTransaction]
  | cons w ws ih =>
    cases w with
    | transaction => exact .inr rfl
    | empty => exact ih
    | error code => exact ih

/-- Holding back sentinels drops no transaction. -/
theorem fromTransaction_transactions (ws : List Awaited) :
    (fromTransaction ws).filter (· == .transaction) = ws.filter (· == .transaction) := by
  induction ws with
  | nil => rfl
  | cons w ws ih => cases w <;> simp_all [fromTransaction]

end Sys2Proof.Machine
end

