-- ==== Sys2Proof/Laws/PerInstr.lean ====
section
/-! SUPPORT. What is said of each instruction as data, one lemma for each constructor. -/

namespace Sys2Proof.Laws.OwnRow

/-- An instruction is one of the rows of its own operation, filled from the record its encoder lays out: no field that the
row reads is dropped. -/
def Statement (i : Instr) : Prop := ∀ c : Cfg, i ∈ i.op.rows (i.toRaw c)

theorem decode (raw : RawIn) : Statement (.decode raw) := by simp [Statement, Instr.op, Instr.toRaw, Op.rows]
theorem classifyStd (flags : Flags) : Statement (.classifyStd flags) := by simp [Statement, Instr.op, Instr.toRaw, Op.rows]
theorem classifyExt (flags : Flags) : Statement (.classifyExt flags) := by simp [Statement, Instr.op, Instr.toRaw, Op.rows]
theorem classifyRtrStd (flags : Flags) : Statement (.classifyRtrStd flags) := by simp [Statement, Instr.op, Instr.toRaw, Op.rows]
theorem classifyRtrExt (flags : Flags) : Statement (.classifyRtrExt flags) := by simp [Statement, Instr.op, Instr.toRaw, Op.rows]
theorem idFmtStd (flags : Flags) (id : CanId) : Statement (.idFmtStd flags id) := by simp [Statement, Instr.op, Instr.toRaw, Op.rows]
theorem idFmtExt (flags : Flags) (id : CanId) : Statement (.idFmtExt flags id) := by simp [Statement, Instr.op, Instr.toRaw, Op.rows]
theorem dlc0 (dlc : Dlc) : Statement (.dlc0 dlc) := by simp [Statement, Instr.op, Instr.toRaw, Op.rows]
theorem dlc1 (dlc : Dlc) : Statement (.dlc1 dlc) := by simp [Statement, Instr.op, Instr.toRaw, Op.rows]
theorem dlc2 (dlc : Dlc) : Statement (.dlc2 dlc) := by simp [Statement, Instr.op, Instr.toRaw, Op.rows]
theorem dlc3 (dlc : Dlc) : Statement (.dlc3 dlc) := by simp [Statement, Instr.op, Instr.toRaw, Op.rows]
theorem dlc4 (dlc : Dlc) : Statement (.dlc4 dlc) := by simp [Statement, Instr.op, Instr.toRaw, Op.rows]
theorem dlc5 (dlc : Dlc) : Statement (.dlc5 dlc) := by simp [Statement, Instr.op, Instr.toRaw, Op.rows]
theorem dlc6 (dlc : Dlc) : Statement (.dlc6 dlc) := by simp [Statement, Instr.op, Instr.toRaw, Op.rows]
theorem dlc7 (dlc : Dlc) : Statement (.dlc7 dlc) := by simp [Statement, Instr.op, Instr.toRaw, Op.rows]
theorem dlc8 (dlc : Dlc) : Statement (.dlc8 dlc) := by simp [Statement, Instr.op, Instr.toRaw, Op.rows]
theorem dlc9 (dlc : Dlc) : Statement (.dlc9 dlc) := by simp [Statement, Instr.op, Instr.toRaw, Op.rows]
theorem dlc10 (dlc : Dlc) : Statement (.dlc10 dlc) := by simp [Statement, Instr.op, Instr.toRaw, Op.rows]
theorem dlc11 (dlc : Dlc) : Statement (.dlc11 dlc) := by simp [Statement, Instr.op, Instr.toRaw, Op.rows]
theorem dlc12 (dlc : Dlc) : Statement (.dlc12 dlc) := by simp [Statement, Instr.op, Instr.toRaw, Op.rows]
theorem dlc13 (dlc : Dlc) : Statement (.dlc13 dlc) := by simp [Statement, Instr.op, Instr.toRaw, Op.rows]
theorem dlc14 (dlc : Dlc) : Statement (.dlc14 dlc) := by simp [Statement, Instr.op, Instr.toRaw, Op.rows]
theorem dlc15 (dlc : Dlc) : Statement (.dlc15 dlc) := by simp [Statement, Instr.op, Instr.toRaw, Op.rows]
theorem dlcDegraded10 (dlc : Dlc) : Statement (.dlcDegraded10 dlc) := by simp [Statement, Instr.op, Instr.toRaw, Op.rows]
theorem dlcDegraded20 (dlc : Dlc) : Statement (.dlcDegraded20 dlc) := by simp [Statement, Instr.op, Instr.toRaw, Op.rows]
theorem dlcDegraded40 (dlc : Dlc) : Statement (.dlcDegraded40 dlc) := by simp [Statement, Instr.op, Instr.toRaw, Op.rows]
theorem dlcDegraded80 (dlc : Dlc) : Statement (.dlcDegraded80 dlc) := by simp [Statement, Instr.op, Instr.toRaw, Op.rows]
theorem tScale (ts : Ticks) : Statement (.tScale ts) := by simp [Statement, Instr.op, Instr.toRaw, Op.rows]
theorem dataSelBytes (flags : Flags) (dlc : Dlc) (payload : Payload) : Statement (.dataSelBytes flags dlc payload) := by simp [Statement, Instr.op, Instr.toRaw, Op.rows]
theorem dataSelRr (flags : Flags) (dlc : Dlc) (payload : Payload) : Statement (.dataSelRr flags dlc payload) := by simp [Statement, Instr.op, Instr.toRaw, Op.rows]

end Sys2Proof.Laws.OwnRow
end

