-- ==== Sys2Proof/Laws/Step.lean ====
section
/-! SUPPORT. What a step can do, said once: it always answers a next state, of a known form. -/

namespace Sys2Proof.Machine

/-- The result the slot's transaction drives: DECODE of the presented record, or a place that holds none. -/
def State.slotResult (s : State) : Stage :=
  if s.present.pipeReset || !s.present.inp.valid then bubble s.draws 0
  else ⟨true, decodeFrame s.cfg s.present.inp.raw⟩

/-- The one form of a step: the host presents, the pipeline clocks, the slot's result stands in the datapath, the host
reports. -/
theorem step_eq (s : State) : step s = .next ({ s.slotStart with datapath := s.slotResult } : State).report := by
  unfold step
  cases hf : s.slotStart.fetch with
  | none =>
    have hg : s.slotResult = bubble s.draws 0 := by
      rcases (fetch_eq_none _).1 hf with h | h <;> simp [State.slotStart] at h <;> simp [State.slotResult, h]
    have hd : s.slotStart.datapath = bubble s.draws 0 := by simp [State.slotStart]
    simp only [hg]
    rw [← hd]
  | some i =>
    obtain ⟨h1, h2, rfl⟩ := (fetch_eq_some _ _).1 hf
    simp [State.slotStart] at h1 h2
    have hg : s.slotResult = ⟨true, decodeFrame s.cfg s.present.inp.raw⟩ := by simp [State.slotResult, h1, h2]
    simp [exec, execDecode_eq, hg, State.slotStart]

/-- The reset that acts in a slot. -/
theorem present_pipeReset (s : State) (h : HostSlot) (rest : List HostSlot) (hs : s.script = h :: rest) :
    s.present.pipeReset = (h.rst && decide (0 < s.cfg.latency)) := by
  simp [present_cons s h rest hs, State.pipeReset]

theorem present_pipeReset_nil (s : State) (hs : s.script = []) : s.present.pipeReset = false := by
  simp [present_nil s hs, State.pipeReset]

/-- A step takes one slot from the script. -/
theorem present_script (s : State) : s.present.script = s.script.tail := by
  cases hs : s.script with
  | nil => simp [present_nil s hs, hs]
  | cons h rest => simp [present_cons s h rest hs]

/-- Presenting puts a record of the block's widths on the input ports when every frame to come has them (log 1). -/
theorem present_fits (s : State) (h : ∀ g ∈ s.script, ∀ f, g.result = some (.frame f) → f.fits s.cfg = true) :
    s.present.inp.raw.fits s.cfg = true := by
  cases hs : s.script with
  | nil => simp [present_nil s hs]
  | cons slot rest =>
    rw [present_cons s slot rest hs]
    rcases hr : slot.result with _ | (f | _ | code)
    · simp [portsOf]
    · simpa [portsOf, RawIn.fits, RawFrame.toRaw, RawFrame.fits] using h slot (by simp [hs]) f hr
    · simp [portsOf]
    · simp [portsOf]

/-! ### The texts of the reported frames -/

@[simp] theorem text_frame (c : Cfg) (o : DecOut) : (Event.frame o).text c = some (textRecord c o) := rfl
@[simp] theorem text_empty (c : Cfg) : Event.empty.text c = none := rfl
@[simp] theorem text_error (c : Cfg) (code : Nat) : (Event.error code).text c = none := rfl

/-- Sentinels have no text. -/
@[simp] theorem sentinels_text (c : Cfg) (ws : List Awaited) : (leadingSentinels ws).filterMap (Event.text c) = [] := by
  induction ws with
  | nil => rfl
  | cons w ws ih => cases w <;> simp only [leadingSentinels, List.filterMap_cons, List.filterMap_nil, text_empty, text_error, ih]

/-! ### Runs -/

@[simp] theorem run_zero (s : State) : runSlots 0 s = .next s := rfl

/-- A run of one slot more is a step and then the run. -/
theorem run_succ_of_next (n : Nat) (s t : State) (h : step s = .next t) : runSlots (n + 1) s = runSlots n t := by
  simp only [runSlots, h]

/-- `runSlots` is the host's run of this machine. -/
theorem run_eq_core_run (n : Nat) (s : State) : Host.Core.run Sys2Proof.core n s = runSlots n s := by
  induction n generalizing s with
  | zero => rfl
  | succ n ih =>
    have h' : Sys2Proof.core.step s = .next _ := step_eq s
    rw [run_succ_of_next n s _ (step_eq s), ← ih]
    simp only [Host.Core.run, h']

end Sys2Proof.Machine
end

