-- ==== Sys2Proof/Tests/Slice0.lean ====
section
/-! SUPPORT. The model's own tests. Expected values are the spec's: its opcode table, the packed layouts of R70 and R71, and
the vectors of spec/95_test_vectors.md (their names stand in the comments). Witnesses of the obligations' hypotheses last. -/

namespace Sys2Proof.Tests

open Sys2Proof Sys2Proof.Machine

/-! ## WellFormed: an ill-formed term for each check -/

theorem test_wf_refuses_flag_rows :
    (Instr.classifyStd ⟨8, 0x01⟩).wf Cfg.thisHardware = false ∧ (Instr.classifyExt ⟨8, 0x03⟩).wf Cfg.thisHardware = false ∧
    (Instr.classifyRtrStd ⟨8, 0x00⟩).wf Cfg.thisHardware = false ∧ (Instr.classifyRtrExt ⟨8, 0x02⟩).wf Cfg.thisHardware = false ∧
    (Instr.idFmtStd ⟨8, 0x02⟩ 0).wf Cfg.thisHardware = false ∧ (Instr.idFmtExt ⟨8, 0x01⟩ 0).wf Cfg.thisHardware = false ∧
    (Instr.dataSelBytes ⟨8, 0x01⟩ ⟨8, 0⟩ (Payload.ofBytes fun _ => 0)).wf Cfg.thisHardware = false ∧
    (Instr.dataSelRr ⟨8, 0x02⟩ ⟨8, 0⟩ (Payload.ofBytes fun _ => 0)).wf Cfg.thisHardware = false := by decide

theorem test_wf_refuses_table_rows :
    (Instr.dlc0 ⟨8, 0x10⟩).wf Cfg.thisHardware = false ∧ (Instr.dlc1 ⟨8, 0x11⟩).wf Cfg.thisHardware = false ∧
    (Instr.dlc2 ⟨8, 0x03⟩).wf Cfg.thisHardware = false ∧ (Instr.dlc3 ⟨8, 0x02⟩).wf Cfg.thisHardware = false ∧
    (Instr.dlc4 ⟨8, 0x05⟩).wf Cfg.thisHardware = false ∧ (Instr.dlc5 ⟨8, 0x04⟩).wf Cfg.thisHardware = false ∧
    (Instr.dlc6 ⟨8, 0x07⟩).wf Cfg.thisHardware = false ∧ (Instr.dlc7 ⟨8, 0x06⟩).wf Cfg.thisHardware = false ∧
    (Instr.dlc8 ⟨8, 0x88⟩).wf Cfg.thisHardware = false ∧ (Instr.dlc9 ⟨8, 0xF9⟩).wf Cfg.thisHardware = false ∧
    (Instr.dlc10 ⟨8, 0x0B⟩).wf Cfg.thisHardware = false ∧ (Instr.dlc11 ⟨8, 0x0A⟩).wf Cfg.thisHardware = false ∧
    (Instr.dlc12 ⟨8, 0x0D⟩).wf Cfg.thisHardware = false ∧ (Instr.dlc13 ⟨8, 0x0C⟩).wf Cfg.thisHardware = false ∧
    (Instr.dlc14 ⟨8, 0x0F⟩).wf Cfg.thisHardware = false ∧ (Instr.dlc15 ⟨8, 0x1F⟩).wf Cfg.thisHardware = false := by decide

/-- A field of another width than the block's port is refused, whatever its value. -/
theorem test_wf_refuses_other_widths :
    (Instr.classifyStd ⟨7, 0⟩).wf Cfg.thisHardware = false ∧ (Instr.idFmtExt ⟨9, 2⟩ 0).wf Cfg.thisHardware = false ∧
    (Instr.dlc3 ⟨4, 3⟩).wf Cfg.thisHardware = false ∧ (Instr.dlcDegraded10 ⟨9, 0x10⟩).wf Cfg.thisHardware = false ∧
    (Instr.dataSelRr ⟨8, 1⟩ ⟨4, 0⟩ (Payload.ofBytes fun _ => 0)).wf Cfg.thisHardware = false ∧
    (Instr.decode { RawIn.blank Cfg.thisHardware with dlc := ⟨9, 0⟩ }).wf Cfg.thisHardware = false := by decide

theorem test_wf_refuses_degraded_rows :
    (Instr.dlcDegraded10 ⟨8, 0x0F⟩).wf Cfg.thisHardware = false ∧ (Instr.dlcDegraded20 ⟨8, 0x1F⟩).wf Cfg.thisHardware = false ∧
    (Instr.dlcDegraded40 ⟨8, 0x80⟩).wf Cfg.thisHardware = false ∧ (Instr.dlcDegraded80 ⟨8, 0x7F⟩).wf Cfg.thisHardware = false := by
  decide

/-- The flag rows' match and mask at this hardware's layout are those of R84. -/
theorem test_flag_rows_match_the_table :
    ((Instr.classifyStd ⟨8, 0⟩).pattern Cfg.thisHardware, (Instr.classifyStd ⟨8, 0⟩).mask Cfg.thisHardware) = (0x00, 0x03) ∧
    ((Instr.classifyExt ⟨8, 0⟩).pattern Cfg.thisHardware, (Instr.classifyExt ⟨8, 0⟩).mask Cfg.thisHardware) = (0x02, 0x03) ∧
    ((Instr.classifyRtrStd ⟨8, 0⟩).pattern Cfg.thisHardware, (Instr.classifyRtrStd ⟨8, 0⟩).mask Cfg.thisHardware) = (0x01, 0x03) ∧
    ((Instr.classifyRtrExt ⟨8, 0⟩).pattern Cfg.thisHardware, (Instr.classifyRtrExt ⟨8, 0⟩).mask Cfg.thisHardware) = (0x03, 0x03) ∧
    ((Instr.idFmtStd ⟨8, 0⟩ 0).pattern Cfg.thisHardware, (Instr.idFmtStd ⟨8, 0⟩ 0).mask Cfg.thisHardware) = (0x00, 0x02) ∧
    ((Instr.idFmtExt ⟨8, 0⟩ 0).pattern Cfg.thisHardware, (Instr.idFmtExt ⟨8, 0⟩ 0).mask Cfg.thisHardware) = (0x02, 0x02) ∧
    (Instr.dataSelBytes ⟨8, 0⟩ ⟨8, 0⟩ (Payload.ofBytes fun _ => 0)).mask Cfg.thisHardware = 0x01 ∧
    (Instr.dataSelRr ⟨8, 0⟩ ⟨8, 0⟩ (Payload.ofBytes fun _ => 0)).pattern Cfg.thisHardware = 0x01 := by decide

/-! ## Decoding: words written out from R70 (flags at bits 39:32, dlc at bits 47:40, ts at bits 111:48, id at bits 31:0) -/

/-- What a TXN_IN word decodes to at this hardware's parameters. -/
def read (op : Op) (w : TxnIn Cfg.thisHardware) : Except DecodeReject Instr := decodeWord Cfg.thisHardware op w

theorem test_decode_classify :
    read .classify 0xFC00000000#624 = .ok (.classifyStd ⟨8, 0xFC⟩) ∧ read .classify 0x1E00000000#624 = .ok (.classifyExt ⟨8, 0x1E⟩) ∧
    read .classify 0x0500000000#624 = .ok (.classifyRtrStd ⟨8, 0x05⟩) ∧
    read .classify 0xFF00000000#624 = .ok (.classifyRtrExt ⟨8, 0xFF⟩) := by decide +kernel

theorem test_decode_idfmt :
    read .idFmt 0x0500001ABC#624 = .ok (.idFmtStd ⟨8, 0x05⟩ 0x1ABC#32) ∧
    read .idFmt 0x0280000123#624 = .ok (.idFmtExt ⟨8, 0x02⟩ 0x80000123#32) := by decide +kernel

theorem test_decode_dlc_table_low :
    read .dlcLen 0x000000000000#624 = .ok (.dlc0 ⟨8, 0x00⟩) ∧ read .dlcLen 0x010000000000#624 = .ok (.dlc1 ⟨8, 0x01⟩) ∧
    read .dlcLen 0x020000000000#624 = .ok (.dlc2 ⟨8, 0x02⟩) ∧ read .dlcLen 0x030000000000#624 = .ok (.dlc3 ⟨8, 0x03⟩) ∧
    read .dlcLen 0x040000000000#624 = .ok (.dlc4 ⟨8, 0x04⟩) ∧ read .dlcLen 0x050000000000#624 = .ok (.dlc5 ⟨8, 0x05⟩) ∧
    read .dlcLen 0x060000000000#624 = .ok (.dlc6 ⟨8, 0x06⟩) ∧ read .dlcLen 0x070000000000#624 = .ok (.dlc7 ⟨8, 0x07⟩) := by
  decide +kernel

theorem test_decode_dlc_table_high :
    read .dlcLen 0x080000000000#624 = .ok (.dlc8 ⟨8, 0x08⟩) ∧ read .dlcLen 0x090000000000#624 = .ok (.dlc9 ⟨8, 0x09⟩) ∧
    read .dlcLen 0x0A0000000000#624 = .ok (.dlc10 ⟨8, 0x0A⟩) ∧ read .dlcLen 0x0B0000000000#624 = .ok (.dlc11 ⟨8, 0x0B⟩) ∧
    read .dlcLen 0x0C0000000000#624 = .ok (.dlc12 ⟨8, 0x0C⟩) ∧ read .dlcLen 0x0D0000000000#624 = .ok (.dlc13 ⟨8, 0x0D⟩) ∧
    read .dlcLen 0x0E0000000000#624 = .ok (.dlc14 ⟨8, 0x0E⟩) ∧ read .dlcLen 0x0F0000000000#624 = .ok (.dlc15 ⟨8, 0x0F⟩) := by
  decide +kernel

theorem test_decode_dlc_degraded :
    read .dlcLen 0x100000000000#624 = .ok (.dlcDegraded10 ⟨8, 0x10⟩) ∧
    read .dlcLen 0x3F0000000000#624 = .ok (.dlcDegraded20 ⟨8, 0x3F⟩) ∧
    read .dlcLen 0x400000000000#624 = .ok (.dlcDegraded40 ⟨8, 0x40⟩) ∧
    read .dlcLen 0xF90000000000#624 = .ok (.dlcDegraded80 ⟨8, 0xF9⟩) := by decide +kernel

theorem test_decode_tscale : read .tScale 0x000000000016E360000000000000#624 = .ok (.tScale 1500000#64) := by decide +kernel

/-- Payload byte 0 is at bits 119:112 (V-DS: dlc 3, bytes 0A FF 01). -/
theorem test_decode_datasel :
    read .dataSel 0x01FF0A0000000000000000030000000000#624 =
      .ok (.dataSelBytes ⟨8, 0x00⟩ ⟨8, 0x03⟩ (Payload.ofBytes fun i => [0x0A#8, 0xFF#8, 0x01#8].getD i 0)) ∧
    read .dataSel 0x0A0000000000000000080100000000#624 =
      .ok (.dataSelRr ⟨8, 0x01⟩ ⟨8, 0x08⟩ (Payload.ofBytes fun i => [0x0A#8].getD i 0)) := by decide +kernel

/-- P2 slot 0 of the spec's programs. -/
theorem test_decode_decode :
    read .decode 0x20100000000000249F00200000007FF#624 =
      .ok (.decode { id := 0x7FF, flags := ⟨8, 0⟩, dlc := ⟨8, 2⟩, ts := 150000, payload := Payload.ofBytes fun i => [1#8, 2#8].getD i 0 }) := by
  decide +kernel

/-- With the flag bits elsewhere the cases follow them (R8, R74). -/
theorem test_decode_other_layout :
    decodeWord { Cfg.thisHardware with rtrBit := 7, extBit := 5 } .classify 0xA000000000#624 = .ok (.classifyRtrExt ⟨8, 0xA0⟩) ∧
    decodeWord { Cfg.thisHardware with rtrBit := 7, extBit := 5 } .classify 0x0300000000#624 = .ok (.classifyStd ⟨8, 0x03⟩) := by
  decide +kernel

theorem test_decode_rejects_other_lengths :
    decodeBytes Cfg.thisHardware .decode [] = .error (.notATxnInWord 0) ∧
    decodeBytes Cfg.thisHardware .decode (List.replicate 79 0) = .error (.notATxnInWord 79) := by decide +kernel

theorem test_table_words :
    decodeTableWord 8 0x09 = some (.dlc9 ⟨8, 0x09⟩) ∧ decodeTableWord 8 0x80 = some (.dlcDegraded80 ⟨8, 0x80⟩) ∧
    decodeTableWord 0 0 = some (.tScale 0) := by decide

/-! ## TXN_OUT words of the spec's programs (R71) -/

/-- P1 slots 1 and 3. -/
theorem test_txn_out_p1 :
    packTxnOut (decodeFrame Cfg.thisHardware (unpackTxnIn Cfg.thisHardware 0x33221100EFBEADDE00000000000F4240080000000123#624)) =
      0xCC884403BEFAB77800000000000003FC0000000000284000000123#666 ∧
    packTxnOut (decodeFrame Cfg.thisHardware (unpackTxnIn Cfg.thisHardware 0x100590040318DAF110#624)) = 0x2C2718DAF110#666 := by decide +kernel

/-- P3. -/
theorem test_txn_out_p3 :
    packTxnOut (decodeFrame Cfg.thisHardware (unpackTxnIn Cfg.thisHardware 0x3F3E3D3C3B3A393837363534333231302F2E2D2C2B2A292827262524232221201F1E1D1C1B1A191817161514131211100F0E0D0C0B0A09080706050403020100FFFFFFFFFFFFFFFF0F1E001ABCDE#624)) =
      0x0FCF8F4F0ECE8E4E0DCD8D4D0CCC8C4C0BCB8B4B0ACA8A4A09C9894908C8884807C7874706C6864605C5854504C4844403C3834302C2824201C1814100C080403FFFFFFFFFFFFFFFE9F16B11C6D2201001ABCDE#666 := by
  decide +kernel

/-- P2 slot 1 and P4. -/
theorem test_txn_out_p2_p4 :
    packTxnOut (decodeFrame Cfg.thisHardware (unpackTxnIn Cfg.thisHardware 0x20100000000000249F01F00000007FF#624)) =
      0x804000000000000000000000000000800000007FF#666 ∧
    packTxnOut (decodeFrame Cfg.thisHardware (unpackTxnIn Cfg.thisHardware 0x8877665544332211000000000097D3300C00000008F0#624)) =
      0x221DD995510CC88440000000003FFFFFC000000000190C0000000F0#666 := by decide +kernel

theorem test_txn_out_unpacks :
    (unpackTxnOut 0x2C2718DAF110#666).type = 3#2 ∧ (unpackTxnOut 0x2C2718DAF110#666).dataRR = true ∧
    (unpackTxnOut 0x2C2718DAF110#666).dsec = 11#48 ∧ (unpackTxnOut 0x2C2718DAF110#666).len = 4#7 := by decide +kernel

/-! ## One instruction, one slot -/

/-- The datapath's outputs after an instruction on the reset state. -/
def after (i : Instr) : Option DecOut :=
  match exec i State.reset with
  | .next t => some t.datapath.data
  | .fault _ => none
  | .refused _ => none

theorem test_exec_classify :
    (after (.classifyStd ⟨8, 0x1C⟩)).map (·.type) = some 0b00#2 ∧ (after (.classifyExt ⟨8, 0x1E⟩)).map (·.type) = some 0b01#2 ∧
    (after (.classifyRtrStd ⟨8, 0x05⟩)).map (·.type) = some 0b10#2 ∧ (after (.classifyRtrExt ⟨8, 0xFF⟩)).map (·.type) = some 0b11#2 := by
  decide

/-- V-ID-04, V-ID-12. -/
theorem test_exec_idfmt :
    (after (.idFmtStd ⟨8, 0⟩ 0x1ABC#32)).map (·.id) = some 0x2BC#32 ∧
    (after (.idFmtExt ⟨8, 2⟩ 0x80000123#32)).map (·.id) = some 0x80000123#32 := by decide

/-- V-TS-08, V-TS-17. -/
theorem test_exec_tscale :
    (after (.tScale 150000#64)).map (·.dsec) = some 2#48 ∧
    (after (.tScale 18446744073709551615#64)).map (·.dsec) = some 184467440737096#48 := by decide

/-- V-DS-05, V-DS-10. -/
theorem test_exec_datasel :
    (after (.dataSelBytes ⟨8, 0⟩ ⟨8, 9⟩ (Payload.ofBytes fun _ => 7))).map (fun o => (o.dataRR, o.byteEn, o.payload.byte 63)) =
      some (false, 0xFFF#64, 7#8) ∧
    (after (.dataSelRr ⟨8, 1⟩ ⟨8, 15⟩ (Payload.ofBytes fun _ => 7))).map (fun o => (o.dataRR, o.byteEn, o.payload.byte 0)) =
      some (true, 0#64, 7#8) := by decide +kernel

/-- Parameters of another legal block: a 2-bit flag word and a 12-bit DLC (R8). -/
def wide : Cfg := { Cfg.thisHardware with flagsW := 2, dlcW := 12, rtrBit := 1, extBit := 0, hexBytePad := .minimal }

/-- The reset state about to be given one adapter result. -/
def given (c : Cfg) (r : AdapterResult) : State := { State.reset with cfg := c, script := [⟨false, some r⟩] }

/-- The result text of R85 that the slot's outputs have. -/
def shown (r : AdapterResult) : Option String :=
  match step (given Cfg.thisHardware r) with
  | .next t => t.readOut.map resultText
  | .fault _ => none
  | .refused _ => none

/-- V-DE-01, V-DE-02, V-DE-04. -/
theorem test_step_vectors :
    shown (.frame ⟨0xFFFFFFFF, ⟨8, 0x00⟩, ⟨8, 8⟩, 0, List.replicate 8 0xFF⟩) = some "=> type=0b00 id=0x7FF len=8 dsec=0 rr=0 en=0xFF" ∧
    shown (.frame ⟨0x1ABCDE, ⟨8, 0x07⟩, ⟨8, 128⟩, 150000, []⟩) = some "=> type=0b11 id=0x1ABCDE len=0 dsec=2 rr=1 en=0x0" ∧
    shown (.frame ⟨0x80000123, ⟨8, 0x02⟩, ⟨8, 0⟩, 100000, []⟩) = some "=> type=0b01 id=0x80000123 len=0 dsec=1 rr=0 en=0x0" := by
  decide +kernel

/-- P1 slots 0, 2 and 3: sentinels drive nothing valid; DECODE_RTR_EXT (R86). -/
theorem test_step_program_slots :
    shown .empty = none ∧ shown (.error 0x10) = none ∧
    shown (decodeRtrExt 0x18DAF110 ⟨8, 4⟩ 1050000 []) = some "=> type=0b11 id=0x18DAF110 len=4 dsec=11 rr=1 en=0x0" := by
  decide +kernel

/-- The host's table word runs DECODE with that DLC (V-DL-10). -/
theorem test_fetch_word_runs :
    (match step (State.reset.withFetchWord 8 0x09) with
      | .next t => t.readOut.map (·.len)
      | .fault _ => none
      | .refused _ => none) = some 12#7 := by decide +kernel

/-- A block of other widths steps too: a 12-bit DLC of 256 is degraded though its low eight bits are 0, and one of 15 is the last
table entry (R8, R161, D26). -/
theorem test_step_other_widths :
    (match step (given wide (.frame ⟨0x7FF, ⟨2, 0b01⟩, ⟨12, 0x100⟩, 0, []⟩)) with
      | .next t => t.readOut.map fun o => (o.len, o.type)
      | .fault _ => none
      | .refused _ => none) = some (0#7, 0b01#2) ∧
    (match step (given wide (.frame ⟨0x7FF, ⟨2, 0b10⟩, ⟨12, 0x00F⟩, 0, []⟩)) with
      | .next t => t.readOut.map fun o => (o.len, o.type)
      | .fault _ => none
      | .refused _ => none) = some (64#7, 0b10#2) := by decide +kernel

/-- At a 12-bit DLC the rows stay disjoint: 256 is none of the table's, and a 4-bit DLC has no degraded row. -/
theorem test_wf_other_widths :
    (Instr.dlc0 ⟨12, 0x100⟩).wf wide = false ∧ (Instr.dlcDegraded80 ⟨12, 0x100⟩).wf wide = true ∧
    (Instr.dlcDegraded10 ⟨12, 0x110⟩).wf wide = false ∧ (Instr.dlc15 ⟨4, 15⟩).wf { wide with dlcW := 4 } = true ∧
    (Instr.dlcDegraded10 ⟨4, 0⟩).wf { wide with dlcW := 4 } = false ∧ ({ wide with dlcW := 3 } : Cfg).legal = false := by decide

/-! ## Text (V-RN, V-L1) -/

theorem test_texts :
    idText 0#32 = "0" ∧ idText 0x1ABCDE#32 = "1ABCDE" ∧ timeText 0#48 = "0.0" ∧ timeText 100#48 = "10.0" ∧ timeText 7#48 = "0.7" ∧
    timeText 184467440737096#48 = "18446744073709.6" ∧ typeLabel 0b10#2 = "RTR Frame (Standard ID)" ∧ lengthText 64#7 = "64" := by
  decide +kernel

/-- V-L1-18: a data frame with dlc 3. -/
def threeBytes : DecOut :=
  decodeFrame Cfg.thisHardware
    ({ RawIn.blank Cfg.thisHardware with dlc := ⟨8, 3⟩, payload := Payload.ofBytes fun i => [0x0A#8, 0xFF#8, 0x01#8].getD i 0 } : RawIn)

theorem test_data_text :
    dataText .twoDigit threeBytes = "0A FF 01" ∧ dataText .minimal threeBytes = "A FF 1" ∧
    dataText .twoDigit { threeBytes with dataRR := true } = "Remote Request" ∧
    dataText .twoDigit { threeBytes with byteEn := 0 } = "" := by decide +kernel

theorem test_text_record :
    textRecord Cfg.thisHardware threeBytes = ⟨"Standard Frame", "0", 3, "0.0", "0A FF 01"⟩ := by decide +kernel

theorem test_slot_text :
    adapterResultText (.frame ⟨0x123, ⟨8, 0x00⟩, ⟨8, 8⟩, 1000000, [0xDE, 0xAD]⟩) =
      "DECODE id=0x123, flags=0x00, dlc=8, ts=1000000, payload=[DE AD]" ∧
    adapterResultText .empty = "IDLE empty" ∧ adapterResultText (.error 0x10) = "IDLE error=0x00000010" ∧
    adapterResultText (.error 0x123456789ABCDEF01) = "IDLE error=0x123456789ABCDEF01" := by decide +kernel

/-- The frames' texts, at the block's own HEX_BYTE_PAD (V-DS-12: MINIMAL). -/
theorem test_host_renders :
    (match step (given wide (.frame ⟨0x7FF, ⟨2, 0⟩, ⟨12, 1⟩, 1500000, [0x00]⟩)) with
      | .next t => t.texts
      | .fault _ => []
      | .refused _ => []) = [⟨"Standard Frame", "7FF", 1, "1.5", "0"⟩] := by decide +kernel

theorem test_flag_names : flagsOf Cfg.thisHardware [1, fdBit, brsBit, esiBit] = ⟨8, 0x1E⟩ ∧ readFlags Cfg.thisHardware = ⟨8, 0x03⟩ := by decide

/-! ## Witnesses: the hypotheses of each obligation can be met together -/

/-- A classic frame with dlc 12 and two received bytes. -/
def aFrame : RawFrame := ⟨0x8F0, ⟨8, 0x00⟩, ⟨8, 12⟩, 9950000, [0x11, 0x22]⟩

/-- Parameters with a pipeline of two places. -/
def piped : Cfg := { Cfg.thisHardware with latency := 2 }

/-- A state with a transaction in flight, a sentinel held behind it, and a frame about to be presented. -/
def busy : State :=
  { State.reset with
    cfg := piped
    pipe := [⟨true, DecOut.blank⟩, ⟨false, DecOut.blank⟩]
    script := [⟨false, some (.frame aFrame)⟩]
    awaiting := [.transaction, .empty] }

/-- A pipelined state in which nothing is in flight. -/
def calm (script : List HostSlot) : State :=
  { State.reset with cfg := piped, pipe := [⟨false, DecOut.blank⟩, ⟨false, DecOut.blank⟩], script := script }

theorem blank_producible : DecOut.Producible DecOut.blank :=
  ⟨by decide, by decide, by decide, by decide, by decide⟩

theorem busy_inv : busy.Inv := by
  refine ⟨by decide, by decide, ?_, by decide, ?_, by decide, by decide⟩
  · intro h hh f hf
    simp only [busy, State.reset, List.mem_cons, List.not_mem_nil, or_false] at hh
    subst hh
    cases hf
    decide
  intro g hg hv
  simp only [busy, State.reset, List.mem_cons, List.not_mem_nil, or_false] at hg
  rcases hg with rfl | rfl | rfl
  · cases hv
  · exact blank_producible
  · cases hv

theorem calm_inv (script : List HostSlot)
    (hs : ∀ h ∈ script, ∀ f, h.result = some (.frame f) → f.fits piped = true) : (calm script).Inv := by
  refine ⟨rfl, rfl, hs, rfl, ?_, rfl, .inl rfl⟩
  intro g hg hv
  simp only [calm, State.reset, List.mem_cons, List.not_mem_nil, or_false] at hg
  rcases hg with rfl | rfl | rfl <;> cases hv

theorem witness_StepKeepsTheInvariant : ∃ s t : State, s.Inv ∧ step s = .next t := ⟨busy, _, busy_inv, step_eq busy⟩

theorem witness_ParametersNeverChange : ∃ (n : Nat) (s t : State), runSlots n s = .next t :=
  ⟨1, busy, _, by rw [run_succ_of_next 0 _ _ (step_eq busy)]; rfl⟩

/-- The 78 bytes of the word of P1 slot 3. -/
def someBytes : List Byte := encodeBytes Cfg.thisHardware (.decode (unpackTxnIn Cfg.thisHardware 0x100590040318DAF110#624))

/-- All seven clauses: a slot that fetches, a slot that does not, a presented frame, a sentinel, an ended script, a pipeline
reset, and a word on the ports. -/
theorem witness_StepRunsTheDecodedTransaction :
    (∃ i, (given Cfg.thisHardware (.frame aFrame)).slotStart.fetch = some i) ∧ State.reset.slotStart.fetch = none ∧
    (given Cfg.thisHardware (.frame aFrame)).script = ⟨false, some (.frame aFrame)⟩ :: [] ∧
    ((given Cfg.thisHardware .empty).script = ⟨false, some .empty⟩ :: [] ∧ ∀ f, some AdapterResult.empty ≠ some (.frame f)) ∧
    State.reset.script = [] ∧
    ((calm [⟨true, some (.frame aFrame)⟩]).script = ⟨true, some (.frame aFrame)⟩ :: [] ∧ 0 < (calm []).cfg.latency) ∧
    (∃ (s : State) (i : Instr), decodeBytes s.cfg .decode someBytes = .ok i ∧
      s.slotStart.inp = ⟨true, unpackTxnIn s.cfg (wordOfBytes s.cfg someBytes)⟩ ∧ s.slotStart.pipeReset = false) := by
  refine ⟨⟨_, rfl⟩, rfl, rfl, ⟨rfl, by simp⟩, rfl, ⟨rfl, by decide⟩, ?_⟩
  let s : State :=
    given Cfg.thisHardware (.frame (.ofRaw (unpackTxnIn Cfg.thisHardware (wordOfBytes Cfg.thisHardware someBytes))))
  have hin : s.slotStart.inp = ⟨true, unpackTxnIn s.cfg (wordOfBytes s.cfg someBytes)⟩ := by
    simp [s, State.slotStart, given, State.present, portsOf]
  obtain ⟨i, hi⟩ : ∃ i, decodeBytes s.cfg .decode someBytes = .ok i := by
    have hl : someBytes.length = txnInBytes s.cfg := by simp [someBytes, encodeBytes]; rfl
    exact ⟨_, by rw [decodeBytes, if_pos hl, decodeWord_decode]⟩
  exact ⟨s, i, hi, hin, rfl⟩

theorem witness_OutputsDependOnTheirOwnTransactionAlone :
    let f : RawFrame := .ofRaw (RawIn.blank Cfg.thisHardware)
    let s₁ := given Cfg.thisHardware (.frame f)
    let s₂ := { given Cfg.thisHardware (.frame f) with script := [⟨true, some (.frame f)⟩], draws := 5 }
    s₁.cfg = s₂.cfg ∧ s₁.cfg.latency = 0 ∧ s₁.script = ⟨false, some (.frame f)⟩ :: [] ∧
      s₂.script = ⟨true, some (.frame f)⟩ :: [] ∧ f.toRaw s₁.draws = f.toRaw s₂.draws := by
  refine ⟨rfl, rfl, rfl, rfl, ?_⟩
  rw [toRaw_ofRaw, toRaw_ofRaw]

/-- A frame and a sentinel, each as the first slot. -/
theorem witness_ResultEmergesLatencySlotsLater :
    let h : HostSlot := ⟨false, some (.frame aFrame)⟩
    let e : HostSlot := ⟨false, some .empty⟩
    (calm [h, e]).pipe.length = (calm [h, e]).cfg.latency ∧ (calm [h, e]).script = h :: [e] ∧
      (∀ g ∈ (h :: [e]).take ((calm [h, e]).cfg.latency + 1), g.rst = false) ∧ (∀ f, e.result ≠ some (.frame f)) := by
  refine ⟨rfl, rfl, ?_, by simp⟩
  intro g hg
  simp [calm, piped] at hg
  rcases hg with rfl | rfl <;> rfl

theorem witness_RunReportsEveryResultInOrder :
    let s := calm [⟨false, some .empty⟩, ⟨false, some (.frame aFrame)⟩, ⟨false, none⟩, ⟨false, some (.error 16)⟩]
    s.Inv ∧ s.awaiting = [] ∧ ∀ h ∈ s.script, h.rst = false := by
  refine ⟨calm_inv _ ?_, rfl, ?_⟩
  · intro h hh f hf
    simp only [List.mem_cons, List.not_mem_nil, or_false] at hh
    rcases hh with rfl | rfl | rfl | rfl <;> cases hf
    decide
  intro h hh
  simp [calm] at hh
  rcases hh with rfl | rfl | rfl | rfl <;> rfl

theorem witness_PipelineResetDiscardsEveryTransaction :
    let s := { busy with script := [⟨true, some (.frame aFrame)⟩] }
    0 < s.cfg.latency ∧ s.script = ⟨true, some (.frame aFrame)⟩ :: [] := ⟨by decide, rfl⟩

theorem witness_ResetHasNoEffectAtLatencyZero : State.reset.cfg.latency = 0 := rfl

theorem witness_SentinelSlotIsIdleAndForwarded :
    let s := calm [⟨true, some .empty⟩]
    let u := calm [⟨false, some (.error 16)⟩]
    (s.Inv ∧ s.awaiting = [] ∧ s.script = ⟨true, some .empty⟩ :: []) ∧
      (u.Inv ∧ u.awaiting = [] ∧ u.script = ⟨false, some (.error 16)⟩ :: []) :=
  ⟨⟨calm_inv _ (by simp), rfl, rfl⟩, calm_inv _ (by simp), rfl, rfl⟩

theorem witness_DecodeReadsBackEveryEncodedCase :
    piped.legal = true ∧ (Instr.dlcDegraded40 ⟨8, 0x7F⟩).wf piped = true ∧ (Instr.classifyRtrExt ⟨8, 0xFF⟩).wf piped = true := by decide

/-- This hardware's widths, and a block with a 12-bit DLC of 256 and the narrowest flag word. -/
theorem witness_EveryRecordSelectsExactlyOneRow :
    (piped.legal = true ∧ (RawIn.blank piped).fits piped = true) ∧
      (wide.legal = true ∧ ({ RawIn.blank wide with dlc := ⟨12, 0x100⟩ } : RawIn).fits wide = true) := by decide

theorem witness_TxnInPackingLosesNothing :
    (RawIn.blank wide).fits wide = true ∧ (RawIn.blank Cfg.thisHardware).fits Cfg.thisHardware = true ∧ 63 < 64 := by decide

theorem witness_TxnOutPackingLosesNothing : 63 < 64 := by decide

theorem witness_OnlyTheFixedFormatIsDecoded :
    ([] : List Byte).length ≠ txnInBytes piped ∧ piped.legal = true ∧ someBytes.length = txnInBytes piped := by
  refine ⟨by decide, by decide, ?_⟩
  simp [someBytes, encodeBytes]
  rfl

/-- An instruction of each of two operations, so that each implication's premise is met. -/
theorem witness_OperationsChangeOnlyTheirOwnPorts :
    (∃ t, exec (.dlc9 ⟨8, 9⟩) busy = .next t) ∧ (Instr.dlc9 ⟨8, 9⟩).op ≠ .decode ∧ (Instr.dlc9 ⟨8, 9⟩).op ≠ .classify ∧
      (Instr.dlc9 ⟨8, 9⟩).op ≠ .idFmt ∧ (Instr.dlc9 ⟨8, 9⟩).op ≠ .tScale ∧ (Instr.dlc9 ⟨8, 9⟩).op ≠ .dataSel ∧
      (∃ t, exec (.tScale 1) busy = .next t) ∧ (Instr.tScale 1).op ≠ .dlcLen :=
  ⟨⟨_, rfl⟩, by decide, by decide, by decide, by decide, by decide, ⟨_, rfl⟩, by decide⟩

theorem witness_DecodeIsItsFiveCasesInAnyOrder :
    busy.cfg.legal = true ∧ (RawIn.blank busy.cfg).fits busy.cfg = true ∧ Op.parallel.reverse.Perm Op.parallel :=
  ⟨by decide, by decide, List.reverse_perm _⟩

theorem witness_UnreadFlagsChangeNoOutput :
    sameReadFlags Cfg.thisHardware ⟨8, 0x1E⟩ ⟨8, 0x02⟩ = true ∧ sameReadFlags Cfg.thisHardware ⟨2, 2⟩ ⟨2, 2⟩ = true := by decide

/-- Each implication, for two records that differ in every field its clause leaves open. -/
theorem witness_EachOutputReadsOnlyItsOperands :
    let r : RawIn := RawIn.blank Cfg.thisHardware
    let a : RawIn := { r with id := 1, dlc := ⟨8, 9⟩, ts := 1 }
    let b : RawIn := { r with flags := ⟨8, 3⟩, ts := 1 }
    r.flags = a.flags ∧ r.id ≠ a.id ∧ r.dlc ≠ a.dlc ∧ r.id = b.id ∧ r.dlc = b.dlc ∧ r.flags ≠ b.flags ∧ a.ts = b.ts ∧
      a.payload = b.payload := by decide

theorem witness_StandardIdIsItsLowElevenBits :
    ({ RawIn.blank Cfg.thisHardware with id := 0xFFFFFFFF } : RawIn).flags.bits.getLsbD Cfg.thisHardware.extBit = false := by decide

/-- Each clause, the last at the largest 29-bit ID. -/
theorem witness_ExtendedIdPassesItsMask :
    let r : RawIn := { RawIn.blank Cfg.thisHardware with flags := ⟨8, 0x02⟩, id := 0x1FFFFFFF }
    let c29 : Cfg := { Cfg.thisHardware with extIdMask := 0x1FFFFFFF#32 }
    r.flags.bits.getLsbD Cfg.thisHardware.extBit = true ∧ Cfg.thisHardware.extIdMask = 0xFFFFFFFF#32 ∧
      r.flags.bits.getLsbD c29.extBit = true ∧ c29.extIdMask = 0x1FFFFFFF#32 ∧ c29.legal = true ∧ r.id.toNat ≤ 0x1FFFFFFF := by
  decide

/-- Each clause at a boundary: 8, 16, 14 below 15, 9 and 15; and the narrowest port. -/
theorem witness_DlcTableProperties :
    4 ≤ 8 ∧ (8#8).toNat ≤ 8 ∧ 16 ≤ (16#8).toNat ∧ (14#8).toNat < (15#8).toNat ∧ (15#8).toNat ≤ 15 ∧ 9 ≤ (9#8).toNat ∧
      (15#4).toNat ≤ 15 := by decide

theorem witness_DlcTableIsReproducedExactly : 16 ≤ (16#8).toNat := by decide

theorem witness_DegradedDlcChangesOnlyLengthAndWindow : 15 < (16#8).toNat ∧ 15 < (255#8).toNat := by decide

theorem witness_DegradedRemoteFrameShowsBoth :
    let r : RawIn := { RawIn.blank Cfg.thisHardware with flags := ⟨8, 0x01⟩, dlc := ⟨8, 255⟩ }
    15 < r.dlc.bits.toNat ∧ r.flags.bits.getLsbD Cfg.thisHardware.rtrBit = true := by decide

theorem witness_TScaleIsTheNearestTenth : (150000#64 : Ticks).toNat % 100000 = 50000 := by decide

theorem witness_ByteEnablesAreTheWindow : 63 < 64 := by decide

theorem witness_PayloadPassesThroughUnchanged : ∃ t, exec (.decode (RawIn.blank Cfg.thisHardware)) busy = .next t ∧ 63 < 64 := ⟨_, rfl, by decide⟩

/-- A received byte (index 1) and the first byte past the received count (index 2). -/
theorem witness_EnabledBytesPastTheReceivedCountAreUndefined :
    let s := given Cfg.thisHardware (.frame aFrame)
    s.cfg.latency = 0 ∧ s.script = ⟨false, some (.frame aFrame)⟩ :: [] ∧ aFrame.flags.bits.getLsbD s.cfg.rtrBit = false ∧
      1 < (dlcLen aFrame.dlc.bits).toNat ∧ 1 < aFrame.received.length ∧ 2 < (dlcLen aFrame.dlc.bits).toNat ∧ aFrame.received.length ≤ 2 := by
  decide

/-- A remote frame, a data frame, and a byte on each side of 16. -/
theorem witness_DataTextShowsTheWindow :
    ({ RawIn.blank Cfg.thisHardware with flags := ⟨8, 0x01⟩ } : RawIn).flags.bits.getLsbD Cfg.thisHardware.rtrBit = true ∧
      (RawIn.blank Cfg.thisHardware).flags.bits.getLsbD Cfg.thisHardware.rtrBit = false ∧ (15#8).toNat < 16 ∧ 16 ≤ (16#8).toNat := by decide

/-- The time and ID texts at zero, where the one leading digit is 0. -/
theorem witness_texts_of_zero : (numeral 16 0).head? = some '0' ∧ (numeral 10 0).head? = some '0' := by decide

/-- A frame, and a slot without one. -/
theorem witness_HostRendersEachReportedFrame :
    (given wide (.frame aFrame)).cfg.latency = 0 ∧ (given wide (.frame aFrame)).script = ⟨false, some (.frame aFrame)⟩ :: [] ∧
      (given wide .empty).script = ⟨false, some .empty⟩ :: [] ∧ ∀ f, some AdapterResult.empty ≠ some (.frame f) :=
  ⟨rfl, rfl, rfl, by simp⟩

end Sys2Proof.Tests
end

section
/-! PROOFS of spec/00_scope.md: the invariant of the machine, the parameters, and the texts of the reported frames. First what
the block can drive, then what a slot leaves behind, then the statements. -/

namespace Sys2Proof.Machine

/-! ### What the block can drive (spec/30_encoding.md R77, R82) -/

/-- No table entry is above 64 (spec/43_dlc_lut.md R160). -/
theorem dlcEntry_le (lo : BitVec 4) : (dlcEntry lo).toNat ≤ 64 := by
  decide +revert

theorem dlcLen_le {dw : Nat} (d : BitVec dw) : (dlcLen d).toNat ≤ 64 := by
  unfold dlcLen
  split
  · exact dlcEntry_le _
  · simp

/-- The value of TSCALE is the exact quotient and carry: 48 bits hold it (spec/44_timestamp_scaler.md R183). -/
theorem tsScale_toNat (ts : Ticks) :
    (tsScale ts).toNat = ts.toNat / 100000 + if 50000 ≤ ts.toNat % 100000 then 1 else 0 := by
  have hdiv : Config.tsDiv = 100000 := rfl
  have hts := ts.isLt
  simp only [tsScale, hdiv, BitVec.toNat_ofNat]
  split <;> omega

theorem tsScale_le (ts : Ticks) : (tsScale ts).toNat ≤ 184467440737096 := by
  have hts := ts.isLt
  rw [tsScale_toNat]
  split <;> omega

/-- The more significant type bit is "is remote" (spec/41_classifier.md R121). -/
theorem classify_bit_one (ext rtr : Bool) : (classify ext rtr).getLsbD 1 = rtr := by
  decide +revert

/-- The less significant type bit is "is extended" (spec/41_classifier.md R121). -/
theorem classify_bit_zero (ext rtr : Bool) : (classify ext rtr).getLsbD 0 = ext := by
  decide +revert

/-- A standard ID is bounded by its mask (spec/42_id_formatter.md R143). -/
theorem idFmt_standard_le (c : Cfg) (id : CanId) : (idFmt c false id).toNat ≤ 0x7FF := by
  simpa [idFmt, Config.stdIdMask] using (Nat.and_le_right : id.toNat &&& 2047 ≤ 2047)

/-- The byte enables are the first `len` bits of a data frame (spec/45_data_select.md R201). -/
theorem byteEn_getLsbD (rtr : Bool) (len : Len) (i : Nat) (hi : i < 64) :
    (byteEn rtr len).getLsbD i = (!rtr && decide (i < len.toNat)) := by
  cases rtr with
  | true => simp [byteEn]
  | false => simp [byteEn, BitVec.getLsbD_ofNat, Nat.testBit_two_pow_sub_one, hi, -BitVec.getLsbD_eq_getElem]

/-- Whatever record is presented, the block drives a record that it can drive. -/
theorem decodeFrame_producible (c : Cfg) (r : RawIn) : DecOut.Producible (decodeFrame c r) where
  len_le := dlcLen_le r.dlc.bits
  dsec_le := tsScale_le r.ts
  rr_is_type := (classify_bit_one (extOf c r) (rtrOf c r)).symm
  standard_id hext := by
    have hstd : extOf c r = false := (classify_bit_zero (extOf c r) (rtrOf c r)).symm.trans hext
    simpa [decodeFrame, hstd] using idFmt_standard_le c r.id
  window i hi := byteEn_getLsbD (rtrOf c r) (dlcLen r.dlc.bits) i hi

theorem slotResult_producible (s : State) (hv : s.slotResult.valid = true) : DecOut.Producible s.slotResult.data := by
  unfold State.slotResult at hv ⊢
  split at hv
  · simp at hv
  · next hslot => simpa [hslot] using decodeFrame_producible _ _

/-! ### The state in which the host reports -/

/-- The state at the host's end of a slot: the slot's result stands in the datapath (spec/10_state.md R28). -/
def State.evaluated (s : State) : State := { s.slotStart with datapath := s.slotResult }

/-- A step is the evaluated slot and the host's report of it. -/
theorem step_eq_next_iff (s t : State) : step s = .next t ↔ t = s.evaluated.report := by
  rw [step_eq, Host.Outcome.next.injEq, eq_comm, State.evaluated]

@[simp] theorem evaluated_cfg (s : State) : s.evaluated.cfg = s.cfg := by simp [State.evaluated, State.slotStart]
@[simp] theorem evaluated_inp (s : State) : s.evaluated.inp = s.present.inp := by simp [State.evaluated, State.slotStart]
@[simp] theorem evaluated_datapath (s : State) : s.evaluated.datapath = s.slotResult := rfl
@[simp] theorem evaluated_script (s : State) : s.evaluated.script = s.script.tail := by
  simp [State.evaluated, State.slotStart, present_script]
@[simp] theorem evaluated_reporter (s : State) : s.evaluated.reporter = s.reporter := by
  simp [State.evaluated, State.slotStart]

theorem evaluated_pipe_of_reset (s : State) (h : s.present.pipeReset = true) :
    s.evaluated.pipe = (List.range s.cfg.latency).map fun k => bubble s.draws (k + 1) := by
  simp [State.evaluated, State.slotStart, clock_of_reset _ h]

theorem evaluated_pipe_of_no_reset (s : State) (h : s.present.pipeReset = false) :
    s.evaluated.pipe = (s.datapath :: s.pipe).take s.cfg.latency := by
  simp [State.evaluated, State.slotStart, clock_of_no_reset _ h]

theorem evaluated_awaiting_of_reset (s : State) (h : s.present.pipeReset = true) :
    s.evaluated.awaiting = s.present.awaiting.filter (· != .transaction) := by
  simp [State.evaluated, State.slotStart, clock_of_reset _ h]

theorem evaluated_awaiting_of_no_reset (s : State) (h : s.present.pipeReset = false) :
    s.evaluated.awaiting = s.present.awaiting := by
  simp [State.evaluated, State.slotStart, clock_of_no_reset _ h]

/-- A slot keeps the number of pipeline registers (spec/10_state.md R26). -/
theorem evaluated_pipe_length (s : State) (h : s.pipe.length = s.cfg.latency) :
    s.evaluated.pipe.length = s.cfg.latency := by
  cases hr : s.present.pipeReset with
  | true => simp [evaluated_pipe_of_reset s hr]
  | false => simp [evaluated_pipe_of_no_reset s hr, h]

/-- A valid pipeline place holds what stood in the datapath or the pipeline before: nothing is made there. -/
theorem mem_of_mem_evaluated_pipe (s : State) (g : Stage) (hg : g ∈ s.evaluated.pipe) (hv : g.valid = true) :
    g ∈ s.datapath :: s.pipe := by
  cases hr : s.present.pipeReset with
  | true =>
    rw [evaluated_pipe_of_reset s hr] at hg
    obtain ⟨k, -, rfl⟩ := List.mem_map.1 hg
    simp at hv
  | false =>
    rw [evaluated_pipe_of_no_reset s hr] at hg
    exact List.mem_of_mem_take hg

/-! ### The awaited transactions are those in the pipeline (spec/60_exceptions.md R316, R320; log 13) -/

/-- How many of the awaited results are transactions. -/
def transactions (ws : List Awaited) : Nat := (ws.filter (· == .transaction)).length

@[simp] theorem transactions_nil : transactions [] = 0 := rfl
@[simp] theorem transactions_cons_transaction (ws : List Awaited) :
    transactions (.transaction :: ws) = transactions ws + 1 := by simp [transactions]
@[simp] theorem transactions_append (ws us : List Awaited) :
    transactions (ws ++ us) = transactions ws + transactions us := by simp [transactions]
@[simp] theorem transactions_fromTransaction (ws : List Awaited) : transactions (fromTransaction ws) = transactions ws := by
  rw [transactions, fromTransaction_transactions, transactions]
@[simp] theorem transactions_forgotten (ws : List Awaited) : transactions (ws.filter (· != .transaction)) = 0 := by
  simp [transactions]

/-- How many places, the datapath and the pipeline registers, hold a result. -/
def State.validPlaces (s : State) : Nat := (s.datapath :: s.pipe).countP (·.valid)

theorem inFlight_length (s : State) : s.inFlight.length = (s.datapath :: s.pipe).dropLast.countP (·.valid) := by
  simp [State.inFlight, List.countP_eq_length_filter]

/-- The output ports are the oldest place (spec/10_state.md R32). -/
theorem out_eq_getLast (s : State) : s.out = (s.datapath :: s.pipe).getLast (List.cons_ne_nil _ _) := by
  apply Option.some.inj
  rw [← List.getLast?_eq_some_getLast, List.getLast?_cons, State.out]

/-- The results in flight are the valid places but the one on the output ports. -/
theorem validPlaces_eq (s : State) : s.validPlaces = s.inFlight.length + s.out.valid.toNat := by
  rw [State.validPlaces, ← List.dropLast_append_getLast (List.cons_ne_nil s.datapath s.pipe), List.countP_append,
    ← out_eq_getLast, ← inFlight_length]
  cases hv : s.out.valid <;> simp [hv]

/-- What the host comes to await in a slot: one result or none, a transaction just when it presents one (R316). -/
theorem present_awaiting (s : State) : ∃ w : Option Awaited,
    s.present.awaiting = s.awaiting ++ w.toList ∧ transactions w.toList = s.present.inp.valid.toNat := by
  cases hs : s.script with
  | nil => exact ⟨none, by simp [present_nil s hs]⟩
  | cons slot rest =>
    refine ⟨slot.result.map awaitedOf, by simp [present_cons s slot rest hs], ?_⟩
    rw [present_cons s slot rest hs]
    rcases slot.result with _ | (f | _ | code) <;> rfl

theorem slotResult_valid (s : State) : s.slotResult.valid = (!s.present.pipeReset && s.present.inp.valid) := by
  unfold State.slotResult
  cases s.present.pipeReset <;> cases s.present.inp.valid <;> rfl

/-- Nothing is in the pipeline in a slot of reset (spec/70_reset_and_hazards.md R340, R342). -/
theorem evaluated_validPlaces_of_reset (s : State) (h : s.present.pipeReset = true) : s.evaluated.validPlaces = 0 := by
  simp [State.validPlaces, List.countP_eq_zero, slotResult_valid, evaluated_pipe_of_reset s h, h]

/-- Without reset the pipeline holds what was in flight and what was presented. -/
theorem evaluated_validPlaces_of_no_reset (s : State) (hp : s.pipe.length = s.cfg.latency)
    (h : s.present.pipeReset = false) : s.evaluated.validPlaces = s.inFlight.length + s.present.inp.valid.toNat := by
  have hpipe : s.evaluated.pipe = (s.datapath :: s.pipe).dropLast := by
    simp [evaluated_pipe_of_no_reset s h, List.dropLast_eq_take, hp]
  rw [State.validPlaces, hpipe, inFlight_length, List.countP_cons, evaluated_datapath, slotResult_valid, h]
  cases s.present.inp.valid <;> rfl

/-- When the host is about to report, it awaits exactly the transactions in the pipeline, the one on the output ports among
them. -/
theorem evaluated_awaits_validPlaces (s : State) (hs : s.Inv) :
    transactions s.evaluated.awaiting = s.evaluated.validPlaces := by
  cases hr : s.present.pipeReset with
  | true => rw [evaluated_awaiting_of_reset s hr, transactions_forgotten, evaluated_validPlaces_of_reset s hr]
  | false =>
    obtain ⟨w, haw, hw⟩ := present_awaiting s
    have hbefore : transactions s.awaiting = s.inFlight.length := hs.awaited
    rw [evaluated_awaiting_of_no_reset s hr, haw, transactions_append, hbefore, hw,
      evaluated_validPlaces_of_no_reset s hs.pipe_length hr]

/-- Behind a settled list one more result is awaited: if there is a transaction at all, one is first. -/
theorem head_of_settled_append (ws : List Awaited) (w : Option Awaited)
    (hws : ws.head? = none ∨ ws.head? = some .transaction) (hpos : 0 < transactions (ws ++ w.toList)) :
    (ws ++ w.toList).head? = some .transaction := by
  cases ws with
  | cons v vs => simpa using hws
  | nil =>
    rcases w with _ | (_ | _ | code)
    · simp at hpos
    · rfl
    · simp [transactions] at hpos
    · simp [transactions] at hpos

/-- The result on the output ports is the first that the host awaits: no sentinel stands before it. -/
theorem evaluated_head_of_out_valid (s : State) (hs : s.Inv) (hv : s.evaluated.out.valid = true) :
    s.evaluated.awaiting.head? = some .transaction := by
  have hpos : 0 < s.evaluated.validPlaces := by simp [validPlaces_eq, hv]
  cases hr : s.present.pipeReset with
  | true => simp [evaluated_validPlaces_of_reset s hr] at hpos
  | false =>
    obtain ⟨w, haw, -⟩ := present_awaiting s
    rw [← evaluated_awaits_validPlaces s hs] at hpos
    rw [evaluated_awaiting_of_no_reset s hr, haw] at hpos ⊢
    exact head_of_settled_append s.awaiting w hs.settled hpos

/-- Reporting takes a transaction from the awaited results just when one stands on the output ports. -/
theorem report_transactions (s : State) (h : s.out.valid = true → s.awaiting.head? = some .transaction) :
    transactions s.report.awaiting + s.out.valid.toNat = transactions s.awaiting := by
  cases hv : s.out.valid with
  | false => simp [State.report, reportFrame_of_none s ((readOut_eq_none s).2 hv)]
  | true =>
    have hout : s.readOut = some s.out.data := by simp [State.readOut, hv]
    obtain ⟨rest, hrest⟩ := List.head?_eq_some_iff.1 (h hv)
    simp [State.report, reportFrame_of_some s _ hout, hrest]

/-- No sentinel is held back but behind a transaction (log 13). -/
theorem report_settled (s : State) : s.report.awaiting.head? = none ∨ s.report.awaiting.head? = some .transaction :=
  fromTransaction_head _

/-- Reporting leaves every place as it is. -/
@[simp] theorem report_inFlight (s : State) : s.report.inFlight = s.inFlight := by simp [State.inFlight]

/-- After the report the host awaits exactly the transactions still in flight. -/
theorem evaluated_report_awaited (s : State) (hs : s.Inv) :
    transactions s.evaluated.report.awaiting = s.evaluated.report.inFlight.length := by
  have hreport := report_transactions s.evaluated (evaluated_head_of_out_valid s hs)
  rw [evaluated_awaits_validPlaces s hs, validPlaces_eq] at hreport
  rw [report_inFlight]
  omega

/-- Every valid place holds what the block can drive: the slot's result, or a result of before. -/
theorem evaluated_producible (s : State) (hs : s.Inv) :
    ∀ g ∈ s.evaluated.datapath :: s.evaluated.pipe, g.valid = true → DecOut.Producible g.data := by
  intro g hg hv
  rcases List.mem_cons.1 hg with rfl | hpipe
  · exact slotResult_producible s hv
  · exact hs.producible g (mem_of_mem_evaluated_pipe s g hpipe hv) hv

/-- The slot that `step` gives keeps the invariant. -/
theorem evaluated_report_inv (s : State) (hs : s.Inv) : s.evaluated.report.Inv where
  cfg_legal := by simpa using hs.cfg_legal
  inp_fits := by simpa using present_fits s hs.script_fits
  script_fits g hg f hf := by
    rw [report_script, evaluated_script] at hg
    simpa using hs.script_fits g (List.mem_of_mem_tail hg) f hf
  pipe_length := by simpa using evaluated_pipe_length s hs.pipe_length
  producible := by simpa only [report_datapath, report_pipe] using evaluated_producible s hs
  awaited := evaluated_report_awaited s hs
  settled := report_settled s.evaluated

/-- Settles O3: a step is the evaluated slot and its report, which keeps each clause. -/
theorem stepKeepsTheInvariant : Obligations.StepKeepsTheInvariant := by
  intro s t hs hstep
  rw [(step_eq_next_iff s t).1 hstep]
  exact evaluated_report_inv s hs

/-! ### The parameters (spec/10_state.md R24) -/

theorem step_cfg (s t : State) (h : step s = .next t) : t.cfg = s.cfg := by
  simp [(step_eq_next_iff s t).1 h]

/-- Settles O4, by induction on the number of slots. -/
theorem parametersNeverChange : Obligations.ParametersNeverChange := by
  intro n
  induction n with
  | zero =>
    intro s t h
    cases h
    rfl
  | succ n ih =>
    intro s t h
    have hstep : step s = .next s.evaluated.report := (step_eq_next_iff s _).2 rfl
    rw [run_succ_of_next n s _ hstep] at h
    exact (ih _ t h).trans (step_cfg s _ hstep)

/-! ### The texts of the reported frames (spec/49_reporter_rendering.md R220, R226) -/

/-- The host's report adds the text of the record on the output ports, and no text for a sentinel. -/
theorem report_texts (s : State) : s.report.texts = s.texts ++ (s.readOut.map (textRecord s.cfg)).toList := by
  cases h : s.readOut with
  | none => simp [State.texts, State.report, reportFrame_of_none s h]
  | some o => simp [State.texts, State.report, reportFrame_of_some s o h]

/-- At LATENCY = 0 the output ports are those of the slot's own transaction (spec/10_state.md R32). -/
theorem evaluated_out_of_latency_zero (s : State) (h : s.cfg.latency = 0) : s.evaluated.out = s.slotResult := by
  have hr : s.present.pipeReset = false := pipeReset_of_latency_zero _ (by simpa using h)
  rw [out_of_no_pipe _ (by simp [evaluated_pipe_of_no_reset s hr, h]), evaluated_datapath]

/-- At LATENCY = 0 a slot adds the text of its own result, if it has one. -/
theorem evaluated_report_texts_of_latency_zero (s : State) (h : s.cfg.latency = 0) :
    s.evaluated.report.texts =
      s.texts ++ if s.slotResult.valid then [textRecord s.cfg s.slotResult.data] else [] := by
  have htexts : s.evaluated.texts = s.texts := by simp [State.texts]
  rw [report_texts, htexts, State.readOut, evaluated_out_of_latency_zero s h, evaluated_cfg]
  cases s.slotResult.valid <;> rfl

/-- A frame presented in a slot without reset drives its decoded record. -/
theorem slotResult_of_frame (s : State) (rst : Bool) (f : RawFrame) (rest : List HostSlot)
    (hs : s.script = ⟨rst, some (.frame f)⟩ :: rest) (hr : s.present.pipeReset = false) :
    s.slotResult = ⟨true, decodeFrame s.cfg (f.toRaw s.draws)⟩ := by
  have hinp : s.present.inp = ⟨true, f.toRaw s.draws⟩ := by simp [present_cons s _ rest hs, portsOf]
  simp [State.slotResult, hr, hinp]

/-- A slot without a frame drives nothing. -/
theorem slotResult_invalid_of_no_frame (s : State) (rst : Bool) (res : Option AdapterResult) (rest : List HostSlot)
    (hs : s.script = ⟨rst, res⟩ :: rest) (hres : ∀ f, res ≠ some (.frame f)) : s.slotResult.valid = false := by
  have hports : s.present.inp.valid ≠ true := by
    rw [present_cons s _ rest hs]
    exact fun hv => ((portsOf_valid _ _ _).1 hv).elim hres
  simp [slotResult_valid, hports]

/-- Settles O49: at LATENCY 0 the texts grow by that of the slot's result. -/
theorem hostRendersEachReportedFrame : Obligations.HostRendersEachReportedFrame := by
  intro s rst rest hlat
  have hr : s.present.pipeReset = false := pipeReset_of_latency_zero _ (by simpa using hlat)
  have hstep : step s = .next s.evaluated.report := (step_eq_next_iff s _).2 rfl
  have htexts := evaluated_report_texts_of_latency_zero s hlat
  refine ⟨fun f hs => ⟨_, hstep, ?_⟩, fun res hs hres => ⟨_, hstep, ?_⟩⟩
  · rw [htexts, slotResult_of_frame s rst f rest hs hr]
    rfl
  · simp [htexts, slotResult_invalid_of_no_frame s rst res rest hs hres]

/-! ### Reset (spec/10_state.md R36) -/

/-- Settles O1: each field is the one that `State.reset` names. -/
theorem resetLeavesNothingInFlight : Obligations.ResetLeavesNothingInFlight :=
  ⟨rfl, rfl, rfl, rfl, rfl, rfl, rfl, rfl, rfl⟩

/-- Settles O2: no place is valid, and the host's lists are empty. -/
theorem resetMeetsTheInvariant : Obligations.ResetMeetsTheInvariant where
  cfg_legal := by decide
  inp_fits := rfl
  script_fits _ hg := absurd hg List.not_mem_nil
  pipe_length := rfl
  producible g hg hv := by
    obtain rfl : g = ⟨false, DecOut.blank⟩ := List.mem_singleton.1 hg
    cases hv
  awaited := rfl
  settled := .inl rfl

end Sys2Proof.Machine
end

section
/-! PROOFS of spec/10_state.md: what the output ports hold. First how a result moves through the pipeline, then what a slot of a
sentinel leaves behind, then the statements. -/

namespace Sys2Proof.Machine

theorem step_eq_evaluated (s : State) : step s = .next s.evaluated.report := (step_eq_next_iff s _).2 rfl

/-! ### A result moves one place a slot (spec/10_state.md R26, R32) -/

/-- No reset acts in a slot whose script entry, if there is one, does not assert it. -/
theorem present_pipeReset_of_rst_false (s : State) (n : Nat) (h : ∀ g ∈ s.script.take (n + 1), g.rst = false) :
    s.present.pipeReset = false := by
  cases hs : s.script with
  | nil => exact present_pipeReset_nil s hs
  | cons slot rest => simp [present_pipeReset s slot rest hs, h slot (by simp [hs])]

/-- A script that asserts no reset in `n + 1` slots asserts none in the `n` slots after the first. -/
theorem evaluated_script_rst_false (s : State) (n : Nat) (h : ∀ g ∈ s.script.take (n + 1), g.rst = false) :
    ∀ g ∈ s.evaluated.script.take n, g.rst = false := by
  have htail : s.evaluated.script.take n = (s.script.take (n + 1)).tail := by
    rw [evaluated_script, List.tail_take_eq_take_tail, Nat.add_sub_cancel]
  intro g hg
  rw [htail] at hg
  exact h g (List.mem_of_mem_tail hg)

/-- Without reset, what stood in a place but the last stands in the next place after the slot. -/
theorem evaluated_pipe_getElem? (s : State) (k : Nat) (hr : s.present.pipeReset = false) (hk : k < s.cfg.latency) :
    s.evaluated.pipe[k]? = (s.datapath :: s.pipe)[k]? := by
  rw [evaluated_pipe_of_no_reset s hr, List.getElem?_take_of_lt hk]

/-- The output ports are place LATENCY, counted from the datapath. -/
theorem out_eq_of_getElem? (s : State) (g : Stage) (hp : s.pipe.length = s.cfg.latency)
    (hg : (s.datapath :: s.pipe)[s.cfg.latency]? = some g) : s.out = g := by
  have hlast : (s.datapath :: s.pipe).getLast? = some g := by simpa [List.getLast?_eq_getElem?, hp] using hg
  rw [out_eq_getLast]
  exact List.getLast_of_getLast?_eq_some hlast

/-- A result in place `k` stands on the output ports after the LATENCY - `k` slots it has still to move, when no reset is
asserted in them. -/
theorem run_brings_place_to_out (n : Nat) : ∀ (s : State) (k : Nat) (g : Stage), s.pipe.length = s.cfg.latency →
    (∀ h ∈ s.script.take n, h.rst = false) → (s.datapath :: s.pipe)[k]? = some g → k + n = s.cfg.latency →
    ∃ t, runSlots n s = .next t ∧ t.out = g := by
  induction n with
  | zero =>
    intro s k g hp _ hg hk
    obtain rfl : k = s.cfg.latency := hk
    exact ⟨s, run_zero s, out_eq_of_getElem? s g hp hg⟩
  | succ n ih =>
    intro s k g hp hrst hg hk
    have hr : s.present.pipeReset = false := present_pipeReset_of_rst_false s n hrst
    rw [run_succ_of_next n s _ (step_eq_evaluated s)]
    apply ih s.evaluated.report (k + 1) g
    · simpa using evaluated_pipe_length s hp
    · simpa using evaluated_script_rst_false s n hrst
    · rw [report_pipe, List.getElem?_cons_succ, evaluated_pipe_getElem? s k hr (by omega), hg]
    · rw [report_cfg, evaluated_cfg]
      omega

/-- What a slot drives stands on the output ports LATENCY slots later, when no reset is asserted meanwhile. -/
theorem run_brings_slotResult_to_out (s : State) (hp : s.pipe.length = s.cfg.latency)
    (hrst : ∀ h ∈ s.script.take (s.cfg.latency + 1), h.rst = false) :
    ∃ t, runSlots (s.cfg.latency + 1) s = .next t ∧ t.out = s.slotResult := by
  rw [run_succ_of_next _ s _ (step_eq_evaluated s)]
  apply run_brings_place_to_out s.cfg.latency s.evaluated.report 0 s.slotResult
  · simpa using evaluated_pipe_length s hp
  · simpa using evaluated_script_rst_false s _ hrst
  · simp
  · simp

/-! ### A slot of a sentinel (spec/60_exceptions.md R316; log 13) -/

theorem awaitedOf_ne_transaction (r : AdapterResult) (hr : ∀ f, r ≠ .frame f) : awaitedOf r ≠ .transaction := by
  cases r with
  | frame f => exact absurd rfl (hr f)
  | empty => simp [awaitedOf]
  | error code => simp [awaitedOf]

/-- A host that awaits nothing awaits the slot's sentinel alone, whatever the reset line: reset discards transactions only
(log 12). -/
theorem evaluated_awaiting_of_sentinel (s : State) (rst : Bool) (r : AdapterResult) (rest : List HostSlot)
    (hs : s.script = ⟨rst, some r⟩ :: rest) (hr : ∀ f, r ≠ .frame f) (haw : s.awaiting = []) :
    s.evaluated.awaiting = [awaitedOf r] := by
  have hpresent : s.present.awaiting = [awaitedOf r] := by simp [present_cons s _ rest hs, haw]
  cases hreset : s.present.pipeReset with
  | false => rw [evaluated_awaiting_of_no_reset s hreset, hpresent]
  | true =>
    rw [evaluated_awaiting_of_reset s hreset, hpresent]
    simpa using awaitedOf_ne_transaction r hr

/-- The output ports hold no result when the host awaits no transaction. -/
theorem evaluated_readOut_of_no_transactions (s : State) (hs : s.Inv) (h : transactions s.evaluated.awaiting = 0) :
    s.evaluated.readOut = none := by
  rw [evaluated_awaits_validPlaces s hs, validPlaces_eq] at h
  exact (readOut_eq_none _).2 (Bool.toNat_eq_zero.1 (Nat.add_eq_zero_iff.1 h).2)

/-- With nothing on the output ports the host reports the sentinels that no transaction holds back. -/
theorem report_reporter_of_none (s : State) (h : s.readOut = none) :
    s.report.reporter = s.reporter ++ leadingSentinels s.awaiting := by
  simp [State.report, reportFrame_of_none s h]

/-- A sentinel with nothing awaited before it drives nothing and goes to the Reporter in its own slot. -/
theorem step_of_sentinel (s : State) (rst : Bool) (r : AdapterResult) (rest : List HostSlot) (hs : s.Inv)
    (haw : s.awaiting = []) (hscript : s.script = ⟨rst, some r⟩ :: rest) (hr : ∀ f, r ≠ .frame f) :
    ∃ t, step s = .next t ∧ t.datapath.valid = false ∧ t.readOut = none ∧
      t.reporter = s.reporter ++ leadingSentinels [awaitedOf r] := by
  have hawaited : s.evaluated.awaiting = [awaitedOf r] := evaluated_awaiting_of_sentinel s rst r rest hscript hr haw
  have hnone : transactions s.evaluated.awaiting = 0 := by
    simpa [hawaited, transactions] using awaitedOf_ne_transaction r hr
  have hout : s.evaluated.readOut = none := evaluated_readOut_of_no_transactions s hs hnone
  refine ⟨_, step_eq_evaluated s, ?_, ?_, ?_⟩
  · rw [report_datapath, evaluated_datapath]
    exact slotResult_invalid_of_no_frame s rst (some r) rest hscript (by simpa using hr)
  · rw [report_readOut, hout]
  · rw [report_reporter_of_none _ hout, evaluated_reporter, hawaited]

/-! ### The statements -/

/-- At LATENCY 0 a slot that presents a frame ends with its decoded record on the output ports, whatever the reset line. -/
theorem evaluated_report_out_of_frame (s : State) (rst : Bool) (f : RawFrame) (rest : List HostSlot)
    (hlat : s.cfg.latency = 0) (hs : s.script = ⟨rst, some (.frame f)⟩ :: rest) :
    s.evaluated.report.out = ⟨true, decodeFrame s.cfg (f.toRaw s.draws)⟩ := by
  have hr : s.present.pipeReset = false := pipeReset_of_latency_zero _ (by simpa using hlat)
  rw [report_out, evaluated_out_of_latency_zero s hlat, slotResult_of_frame s rst f rest hs hr]

/-- Settles O7: either slot's outputs are `decodeFrame` of the one record that both present. -/
theorem outputsDependOnTheirOwnTransactionAlone : Obligations.OutputsDependOnTheirOwnTransactionAlone := by
  intro s₁ s₂ rst₁ rst₂ f₁ f₂ rest₁ rest₂ hcfg hlat hs₁ hs₂ hraw
  have hout₁ := evaluated_report_out_of_frame s₁ rst₁ f₁ rest₁ hlat hs₁
  have hout₂ := evaluated_report_out_of_frame s₂ rst₂ f₂ rest₂ (hcfg ▸ hlat) hs₂
  refine ⟨_, _, step_eq_evaluated s₁, step_eq_evaluated s₂, hout₁, ?_⟩
  rw [hout₁, hout₂, hcfg, hraw]

/-- Settles O8: the first slot's result moves through the LATENCY places. -/
theorem resultEmergesLatencySlotsLater : Obligations.ResultEmergesLatencySlotsLater := by
  rintro s ⟨rst, res⟩ rest hp hs hrst
  rw [← hs] at hrst
  obtain ⟨t, hrun, hout⟩ := run_brings_slotResult_to_out s hp hrst
  refine ⟨t, hrun, fun f hf => ?_, fun hres => ?_⟩
  · obtain rfl : res = some (.frame f) := hf
    have hr : s.present.pipeReset = false := present_pipeReset_of_rst_false s _ hrst
    rw [hout, slotResult_of_frame s rst f rest hs hr]
  · have hv : t.out.valid = false := by rw [hout, slotResult_invalid_of_no_frame s rst res rest hs hres]
    exact ⟨hv, (readOut_eq_none t).2 hv⟩

/-- Settles O12: a sentinel is no frame, and the event it is reported as is its own. -/
theorem sentinelSlotIsIdleAndForwarded : Obligations.SentinelSlotIsIdleAndForwarded := by
  intro s rst rest hs haw
  exact ⟨fun hscript => step_of_sentinel s rst .empty rest hs haw hscript (by simp),
    fun code hscript => step_of_sentinel s rst (.error code) rest hs haw hscript (by simp)⟩

end Sys2Proof.Machine
end

section
/-! PROOFS of spec/20_memory.md: the payload bytes that a data frame shows. -/

namespace Sys2Proof.Machine

/-- A data frame enables every byte below the length of its DLC, received or not (R203). -/
theorem decodeFrame_byteEn_of_data_frame (c : Cfg) (r : RawIn) (i : Nat) (hrtr : rtrOf c r = false)
    (hi : i < (dlcLen r.dlc.bits).toNat) : (decodeFrame c r).byteEn.getLsbD i = true := by
  have hi64 : i < 64 := Nat.lt_of_lt_of_le hi (dlcLen_le r.dlc.bits)
  have hwindow : (decodeFrame c r).byteEn.getLsbD i = (!rtrOf c r && decide (i < (dlcLen r.dlc.bits).toNat)) :=
    byteEn_getLsbD (rtrOf c r) (dlcLen r.dlc.bits) i hi64
  rw [hwindow]
  simp [hrtr, hi]

/-- A received byte is presented as received. -/
theorem toRaw_payload_byte_of_received (slot : Nat) (f : RawFrame) (i : Nat) (hi : i < 64)
    (h : i < f.received.length) : (f.toRaw slot).payload.byte i = f.received[i] := by
  rw [toRaw_payload_byte slot f i hi, List.getElem?_eq_getElem h, Option.getD_some]

/-- A byte past the received count is presented as the slot's free value (R52, R350; log 9). -/
theorem toRaw_payload_byte_of_not_received (slot : Nat) (f : RawFrame) (i : Nat) (hi : i < 64)
    (h : f.received.length ≤ i) : (f.toRaw slot).payload.byte i = Config.freeByte slot i := by
  rw [toRaw_payload_byte slot f i hi, List.getElem?_eq_none h, Option.getD_none]

/-- Settles O43: the slot ends with the frame's decoded record on the output ports, whose payload is the one presented. -/
theorem enabledBytesPastTheReceivedCountAreUndefined :
    Obligations.EnabledBytesPastTheReceivedCountAreUndefined := by
  intro s rst f rest i hlat hs hrtr hi
  have hi64 : i < 64 := Nat.lt_of_lt_of_le hi (dlcLen_le f.dlc.bits)
  have hout := evaluated_report_out_of_frame s rst f rest hlat hs
  refine ⟨_, step_eq_evaluated s, ?_⟩
  rw [hout]
  exact ⟨rfl, decodeFrame_byteEn_of_data_frame s.cfg (f.toRaw s.draws) i hrtr hi,
    toRaw_payload_byte_of_received s.draws f i hi64, toRaw_payload_byte_of_not_received s.draws f i hi64⟩

end Sys2Proof.Machine
end

section
/-! PROOFS of spec/30_encoding.md: the packed words, the row that a record selects, and what a case drives. First the fields of
a packed word, then decoder and encoder, then the operations. -/

namespace Sys2Proof

/-! ### Fields of a packed word (spec/30_encoding.md R70, R71) -/

/-- What stands at bit `off` and above leaves no trace in the bits below. -/
theorem extractLsb'_of_placed_above {w : Nat} (x : BitVec w) (off start len : Nat) (h : start + len ≤ off) :
    (x <<< off).extractLsb' start len = 0#len := by
  apply BitVec.eq_of_getLsbD_eq
  intro j hj
  have hbelow : start + j < off := by omega
  simp [hbelow]

/-- A field whose bits all stand below the bits read leaves no trace there. -/
theorem extractLsb'_of_placed_below {n w : Nat} (x : BitVec n) (off start len : Nat) (h : off + n ≤ start) :
    (x.setWidth w <<< off).extractLsb' start len = 0#len := by
  apply BitVec.eq_of_getLsbD_eq
  intro j hj
  have hx : x.getLsbD (start + j - off) = false := BitVec.getLsbD_of_ge _ _ (by omega)
  simp [hx]

/-- A field that fits reads back from its place. -/
theorem extractLsb'_of_placed {n w : Nat} (x : BitVec n) (off : Nat) (h : off + n ≤ w) :
    (x.setWidth w <<< off).extractLsb' off n = x := by
  apply BitVec.eq_of_getLsbD_eq
  intro j hj
  have hw : off + j < w := by omega
  simp [hj, hw]

/-- A packed byte that fits reads back from its place. -/
theorem extractLsb'_of_placed_bytes (w : Nat) (f : Nat → Byte) (n off i : Nat) (hi : i < n)
    (h : off + 8 * (i + 1) ≤ w) : (packBytes w f n <<< off).extractLsb' (off + 8 * i) 8 = f i := by
  apply BitVec.eq_of_getLsbD_eq
  intro j hj
  have hw : off + 8 * i + j < w := by omega
  have hsub : off + 8 * i + j - off = 8 * i + j := by omega
  have hw' : 8 * i + j < w := by omega
  have hn : 8 * i + j < 8 * n := by omega
  have hdiv : (8 * i + j) / 8 = i := by omega
  have hmod : (8 * i + j) % 8 = j := by omega
  have hge : ¬ off + 8 * i + j < off := by omega
  simp [getLsbD_packBytes, -BitVec.getLsbD_eq_getElem, hj, hw, hsub, hw', hn, hdiv, hmod, hge]

/-- Packing reads only the bytes it lays out. -/
theorem packBytes_congr (w : Nat) {f g : Nat → Byte} {n : Nat} (h : ∀ k, k < n → f k = g k) :
    packBytes w f n = packBytes w g n := by
  induction n with
  | zero => rfl
  | succ n ih => rw [packBytes, packBytes, ih fun k hk => h k (by omega), h n (by omega)]

/-- A word is the bytes read from it, when they reach its top bit. -/
theorem packBytes_extractLsb' {w : Nat} (x : BitVec w) (n : Nat) (h : w ≤ 8 * n) :
    packBytes w (fun k => x.extractLsb' (8 * k) 8) n = x := by
  apply BitVec.eq_of_getLsbD_eq
  intro k hk
  have hn : k < 8 * n := by omega
  have hbyte : k % 8 < 8 := by omega
  simp [getLsbD_packBytes, -BitVec.getLsbD_eq_getElem, hk, hn, hbyte, Nat.div_add_mod]

/-- Two words with the same field have the same bits there. -/
theorem getLsbD_eq_of_extractLsb'_eq {w : Nat} {x y : BitVec w} (k off len : Nat) (hoff : off ≤ k) (hlen : k < off + len)
    (h : x.extractLsb' off len = y.extractLsb' off len) : x.getLsbD k = y.getLsbD k := by
  have hk : k - off < len := by omega
  have hbit := congrArg (fun z => z.getLsbD (k - off)) h
  simpa [-BitVec.getLsbD_eq_getElem, hk, Nat.add_sub_cancel' hoff] using hbit

/-- The lowest field reads back from bit 0. -/
theorem extractLsb'_of_lowest {n w : Nat} (x : BitVec n) (h : n ≤ w) : (x.setWidth w).extractLsb' 0 n = x := by
  simpa using extractLsb'_of_placed (w := w) x 0 (by omega)

/-- The lowest field leaves no trace above its bits. -/
theorem extractLsb'_above_lowest {n w : Nat} (x : BitVec n) (start len : Nat) (h : n ≤ start) :
    (x.setWidth w).extractLsb' start len = 0#len := by
  simpa using extractLsb'_of_placed_below (w := w) x 0 start len (by omega)

/-- A payload is read from a word byte by byte. -/
theorem Payload.ofBytes_eq {f : Nat → Byte} {p : Payload} (h : ∀ i, i < 64 → f i = p.byte i) : Payload.ofBytes f = p :=
  Payload.ext_byte _ _ fun i hi => (Payload.byte_ofBytes f i hi).trans (h i hi)

/-- Two words with the same payload have the same bits there. -/
theorem getLsbD_eq_of_payload_eq {w : Nat} {x y : BitVec w} (k off : Nat) (hoff : off ≤ k) (hk : k < off + 512)
    (h : Payload.ofBytes (fun i => x.extractLsb' (off + 8 * i) 8) = Payload.ofBytes fun i => y.extractLsb' (off + 8 * i) 8) :
    x.getLsbD k = y.getLsbD k := by
  have hi : (k - off) / 8 < 64 := by omega
  have hbyte := congrArg (fun p => Payload.byte p ((k - off) / 8)) h
  simp only [Payload.byte_ofBytes _ _ hi] at hbyte
  exact getLsbD_eq_of_extractLsb'_eq k (off + 8 * ((k - off) / 8)) 8 (by omega) (by omega) hbyte

/-! ### TXN_IN (spec/30_encoding.md R70) -/

/-- Each field of a record of the block's widths stands at its word bits. -/
theorem packTxnIn_fields (c : Cfg) (id : CanId) (flags : BitVec c.flagsW) (dlc : BitVec c.dlcW) (ts : Ticks) (p : Payload) :
    let w := packTxnIn c ⟨id, ⟨c.flagsW, flags⟩, ⟨c.dlcW, dlc⟩, ts, p⟩
    w.extractLsb' 0 32 = id ∧ w.extractLsb' 32 c.flagsW = flags ∧ w.extractLsb' (32 + c.flagsW) c.dlcW = dlc ∧
      w.extractLsb' (32 + c.flagsW + c.dlcW) 64 = ts ∧
      ∀ i, i < 64 → w.extractLsb' (96 + c.flagsW + c.dlcW + 8 * i) 8 = p.byte i := by
  intro w
  have hbits : txnInBits c = 608 + c.flagsW + c.dlcW := rfl
  refine ⟨?_, ?_, ?_, ?_, fun i hi => ?_⟩ <;>
    simp (disch := omega) only [w, packTxnIn, BitVec.extractLsb'_or, extractLsb'_of_lowest, extractLsb'_above_lowest,
      extractLsb'_of_placed, extractLsb'_of_placed_below, extractLsb'_of_placed_above, extractLsb'_of_placed_bytes,
      BitVec.or_zero, BitVec.zero_or]

/-- A record of the block's widths, its flags and DLC written with those widths. -/
theorem RawIn.exists_of_fits (c : Cfg) (r : RawIn) (h : r.fits c = true) :
    ∃ id flags dlc ts p, r = ⟨id, ⟨c.flagsW, flags⟩, ⟨c.dlcW, dlc⟩, ts, p⟩ := by
  obtain ⟨id, ⟨fw, flags⟩, ⟨dw, dlc⟩, ts, p⟩ := r
  obtain ⟨rfl, rfl⟩ : fw = c.flagsW ∧ dw = c.dlcW := by simpa [RawIn.fits] using h
  exact ⟨id, flags, dlc, ts, p, rfl⟩

/-- Packing a record of the block's widths loses no field. -/
theorem unpackTxnIn_packTxnIn (c : Cfg) (r : RawIn) (h : r.fits c = true) : unpackTxnIn c (packTxnIn c r) = r := by
  obtain ⟨id, flags, dlc, ts, p, rfl⟩ := RawIn.exists_of_fits c r h
  obtain ⟨hid, hflags, hdlc, hts, hbytes⟩ := packTxnIn_fields c id flags dlc ts p
  rw [unpackTxnIn, hid, hflags, hdlc, hts, Payload.ofBytes_eq hbytes]

/-- Unpacking a word loses no bit: every bit is one of a field. -/
theorem unpackTxnIn_injective (c : Cfg) : Function.Injective (unpackTxnIn c) := by
  intro w v h
  simp only [unpackTxnIn, RawIn.mk.injEq, PortWord.mk.injEq, heq_eq_eq, true_and] at h
  obtain ⟨hid, hflags, hdlc, hts, hpayload⟩ := h
  apply BitVec.eq_of_getLsbD_eq
  intro k hk
  have hbits : txnInBits c = 608 + c.flagsW + c.dlcW := rfl
  by_cases hk1 : k < 32
  · exact getLsbD_eq_of_extractLsb'_eq k 0 32 (by omega) (by omega) hid
  by_cases hk2 : k < 32 + c.flagsW
  · exact getLsbD_eq_of_extractLsb'_eq k 32 c.flagsW (by omega) (by omega) hflags
  by_cases hk3 : k < 32 + c.flagsW + c.dlcW
  · exact getLsbD_eq_of_extractLsb'_eq k (32 + c.flagsW) c.dlcW (by omega) (by omega) hdlc
  by_cases hk4 : k < 32 + c.flagsW + c.dlcW + 64
  · exact getLsbD_eq_of_extractLsb'_eq k (32 + c.flagsW + c.dlcW) 64 (by omega) (by omega) hts
  · exact getLsbD_eq_of_payload_eq k (96 + c.flagsW + c.dlcW) (by omega) (by omega) hpayload

theorem packTxnIn_unpackTxnIn (c : Cfg) (w : TxnIn c) : packTxnIn c (unpackTxnIn c w) = w :=
  unpackTxnIn_injective c (unpackTxnIn_packTxnIn c _ (unpackTxnIn_fits c w))

/-- Settles O15: unpacking is injective and undoes packing. -/
theorem txnInPackingLosesNothing : Obligations.TxnInPackingLosesNothing := by
  refine ⟨unpackTxnIn_packTxnIn, packTxnIn_unpackTxnIn, fun r h => ?_⟩
  obtain ⟨id, flags, dlc, ts, p, rfl⟩ := RawIn.exists_of_fits _ r h
  obtain ⟨hid, hflags, hdlc, hts, hbytes⟩ := packTxnIn_fields _ id flags dlc ts p
  exact ⟨hid, congrArg (PortWord.mk 8) hflags.symm, congrArg (PortWord.mk 8) hdlc.symm, hts, hbytes⟩

/-! ### TXN_OUT (spec/30_encoding.md R71) -/

/-- Each field of an output record stands at its word bits. -/
theorem packTxnOut_fields (o : DecOut) :
    (packTxnOut o).extractLsb' 0 32 = o.id ∧ (packTxnOut o).extractLsb' 32 2 = o.type ∧
      (packTxnOut o).extractLsb' 34 1 = BitVec.ofBool o.dataRR ∧ (packTxnOut o).extractLsb' 35 7 = o.len ∧
      (packTxnOut o).extractLsb' 42 48 = o.dsec ∧ (packTxnOut o).extractLsb' 90 64 = o.byteEn ∧
      ∀ i, i < 64 → (packTxnOut o).extractLsb' (154 + 8 * i) 8 = o.payload.byte i := by
  refine ⟨?_, ?_, ?_, ?_, ?_, ?_, fun i hi => ?_⟩ <;>
    simp (disch := omega) only [packTxnOut, BitVec.extractLsb'_or, extractLsb'_of_lowest, extractLsb'_above_lowest,
      extractLsb'_of_placed, extractLsb'_of_placed_below, extractLsb'_of_placed_above, extractLsb'_of_placed_bytes,
      BitVec.or_zero, BitVec.zero_or]

/-- DATA_RR stands at word bit 34. -/
theorem packTxnOut_dataRR (o : DecOut) : (packTxnOut o).getLsbD 34 = o.dataRR := by
  obtain ⟨-, -, hrr, -⟩ := packTxnOut_fields o
  simpa using congrArg (fun b => b.getLsbD 0) hrr

theorem unpackTxnOut_packTxnOut (o : DecOut) : unpackTxnOut (packTxnOut o) = o := by
  obtain ⟨hid, htype, -, hlen, hdsec, hen, hbytes⟩ := packTxnOut_fields o
  rw [unpackTxnOut, hid, htype, packTxnOut_dataRR, hlen, hdsec, hen, Payload.ofBytes_eq hbytes]

/-- Unpacking a word loses no bit: every bit is one of a field. -/
theorem unpackTxnOut_injective : Function.Injective unpackTxnOut := by
  intro w v h
  simp only [unpackTxnOut, DecOut.mk.injEq] at h
  obtain ⟨htype, hid, hlen, hdsec, hrr, hen, hpayload⟩ := h
  apply BitVec.eq_of_getLsbD_eq
  intro k hk
  by_cases hk1 : k < 32
  · exact getLsbD_eq_of_extractLsb'_eq k 0 32 (by omega) (by omega) hid
  by_cases hk2 : k < 34
  · exact getLsbD_eq_of_extractLsb'_eq k 32 2 (by omega) (by omega) htype
  by_cases hk3 : k = 34
  · rw [hk3, hrr]
  by_cases hk4 : k < 42
  · exact getLsbD_eq_of_extractLsb'_eq k 35 7 (by omega) (by omega) hlen
  by_cases hk5 : k < 90
  · exact getLsbD_eq_of_extractLsb'_eq k 42 48 (by omega) (by omega) hdsec
  by_cases hk6 : k < 154
  · exact getLsbD_eq_of_extractLsb'_eq k 90 64 (by omega) (by omega) hen
  · exact getLsbD_eq_of_payload_eq k 154 (by omega) (by omega) hpayload

/-- Settles O16: unpacking is injective and undoes packing. -/
theorem txnOutPackingLosesNothing : Obligations.TxnOutPackingLosesNothing := by
  refine ⟨unpackTxnOut_packTxnOut, fun w => unpackTxnOut_injective (unpackTxnOut_packTxnOut _), fun o => ?_⟩
  obtain ⟨hid, htype, -, hlen, hdsec, hen, hbytes⟩ := packTxnOut_fields o
  exact ⟨hid, htype, packTxnOut_dataRR o, hlen, hdsec, hen, hbytes⟩

/-! ### The row that a record selects (spec/30_encoding.md R84) -/

/-- The match of the DLC row that a value of in.DLC selects: its own up to 15, else that of its degraded row (log 1 above 0xFF). -/
def dlcPattern (d : Nat) : Nat :=
  if d < 0x10 then d else if d < 0x20 then 0x10 else if d < 0x40 then 0x20 else if d < 0x80 then 0x40 else 0x80

theorem dlcPattern_eq_iff_of_lt (d k : Nat) (hk : k < 0x10) : dlcPattern d = k ↔ d = k := by
  unfold dlcPattern
  split_ifs <;> omega

/-- The degraded rows below the last, of the values with highest bit `j`. -/
theorem dlcPattern_eq_two_pow_iff (d j : Nat) (hj : j ∈ [4, 5, 6]) : dlcPattern d = 2 ^ j ↔ d / 2 ^ j = 1 := by
  simp only [List.mem_cons, List.not_mem_nil, or_false] at hj
  unfold dlcPattern
  rcases hj with rfl | rfl | rfl <;> split_ifs <;> omega

theorem dlcPattern_eq_0x80_iff (d : Nat) : dlcPattern d = 0x80 ↔ 0x80 ≤ d := by
  unfold dlcPattern
  split_ifs <;> omega

/-- A table row's mask is every bit of in.DLC. -/
theorem and_table_mask_eq_iff (d w k : Nat) (hd : d < 2 ^ w) (hk : k < 0x10) :
    d &&& (2 ^ w - 1) = k ↔ dlcPattern d = k := by
  rw [Nat.and_two_pow_sub_one_of_lt_two_pow hd, dlcPattern_eq_iff_of_lt d k hk]

/-- The mask of a degraded row below the last is its bit and every bit above. -/
theorem and_degraded_mask_eq_iff (d w j : Nat) (hd : d < 2 ^ w) (hj : j ∈ [4, 5, 6]) :
    d &&& (2 ^ w - 2 ^ j) = 2 ^ j ↔ dlcPattern d = 2 ^ j := by
  rw [and_high_mask d w j hd, Nat.mul_eq_right (Nat.two_pow_pos j).ne', dlcPattern_eq_two_pow_iff d j hj]

/-- The last degraded row is met by every value from 0x80 up (log 1 above 0xFF). -/
theorem and_0x80_eq_or_above_iff (d : Nat) : d &&& 0x80 = 0x80 ∨ 0x100 ≤ d ↔ dlcPattern d = 0x80 := by
  have hbit : (d &&& 0x80 = 0x80) = (d.testBit 7 = true) := by
    rw [← and_flagMask_eq_self d 7, beq_iff_eq]
    rfl
  rw [dlcPattern_eq_0x80_iff, hbit, Nat.testBit_eq_decide_div_mod_eq, decide_eq_true_iff]
  omega

/-- The rows of an operation are cases of it. -/
theorem op_of_mem_rows (r : RawIn) (op : Op) : ∀ i ∈ op.rows r, i.op = op := by
  cases op <;> simp [Op.rows, Instr.op]

/-- The rows filled from a record of the block's widths carry fields of those widths. -/
theorem fits_of_mem_rows (c : Cfg) (r : RawIn) (hr : r.fits c = true) (op : Op) : ∀ i ∈ op.rows r, i.fits c = true := by
  obtain ⟨hflags, hdlc⟩ : r.flags.width = c.flagsW ∧ r.dlc.width = c.dlcW := by simpa [RawIn.fits] using hr
  cases op <;> simp [Op.rows, Instr.fits, hr, hflags, hdlc]

/-- The match and mask of a DLC row: a table entry with every bit of in.DLC, or a degraded row with its bit and those above;
the last has its bit alone (log 1). -/
theorem dlcRow_pattern_mask (c : Cfg) (r : RawIn) : ∀ i ∈ Op.dlcLen.rows r,
    (i.pattern c < 0x10 ∧ i.mask c = 2 ^ c.dlcW - 1) ∨
      (∃ j ∈ [4, 5, 6], i.pattern c = 2 ^ j ∧ i.mask c = 2 ^ c.dlcW - 2 ^ j) ∨
      (i.pattern c = 0x80 ∧ i.mask c = 0x80) := by
  simp [Op.rows, Instr.pattern, Instr.mask]

theorem dlcRow_selector (r : RawIn) : ∀ i ∈ Op.dlcLen.rows r, i.selector = r.dlc.bits.toNat := by
  simp [Op.rows, Instr.selector]

/-- The match of the row of an operation that a record selects. -/
def rowKey (c : Cfg) (r : RawIn) : Op → Nat
  | .decode => 1
  | .classify => r.flags.bits.toNat &&& (flagMask c.rtrBit ||| flagMask c.extBit)
  | .idFmt => r.flags.bits.toNat &&& flagMask c.extBit
  | .dlcLen => dlcPattern r.dlc.bits.toNat
  | .tScale => 0
  | .dataSel => r.flags.bits.toNat &&& flagMask c.rtrBit

/-- What a row's mask keeps of its selector, but for the DLC rows, is the same for each row of the operation. -/
theorem selector_and_mask (c : Cfg) (r : RawIn) (op : Op) (hop : op ≠ .dlcLen) :
    ∀ i ∈ op.rows r, i.selector &&& i.mask c = rowKey c r op := by
  cases op <;> simp [Op.rows, Instr.selector, Instr.mask, rowKey] at hop ⊢

/-- A DLC row is met just when its match is the one that the value selects. -/
theorem dlcRow_met_iff (c : Cfg) (r : RawIn) (hr : r.fits c = true) (i : Instr) (hi : i ∈ Op.dlcLen.rows r) :
    (i.selector &&& i.mask c = i.pattern c ∨ i.pattern c = 0x80 ∧ 0x100 ≤ i.selector) ↔
      rowKey c r .dlcLen = i.pattern c := by
  have hd : r.dlc.bits.toNat < 2 ^ c.dlcW := by
    have hdlc : r.dlc.width = c.dlcW := by simp_all [RawIn.fits]
    exact hdlc ▸ r.dlc.bits.isLt
  rw [dlcRow_selector r i hi, rowKey]
  rcases dlcRow_pattern_mask c r i hi with ⟨hp, hm⟩ | ⟨j, hj, hp, hm⟩ | ⟨hp, hm⟩
  · have hlast : i.pattern c ≠ 0x80 := by omega
    rw [hm, and_table_mask_eq_iff _ _ _ hd hp]
    simp [hlast]
  · have hlast : 2 ^ j ≠ 0x80 := by
      simp only [List.mem_cons, List.not_mem_nil, or_false] at hj
      rcases hj with rfl | rfl | rfl <;> decide
    rw [hp, hm, and_degraded_mask_eq_iff _ _ _ hd hj]
    simp [hlast]
  · rw [hp, hm]
    simpa using and_0x80_eq_or_above_iff r.dlc.bits.toNat

/-- A row is met just when its match is the one that the record selects. -/
theorem row_wf_iff (c : Cfg) (r : RawIn) (hr : r.fits c = true) (op : Op) (i : Instr) (hi : i ∈ op.rows r) :
    i.wf c = true ↔ i.pattern c = rowKey c r op := by
  have hwf : i.wf c = true ↔
      (i.selector &&& i.mask c = i.pattern c ∨ op = .dlcLen ∧ i.pattern c = 0x80 ∧ 0x100 ≤ i.selector) := by
    simp [Instr.wf, Instr.aboveTheTable, fits_of_mem_rows c r hr op i hi, op_of_mem_rows r op i hi, and_assoc]
  rw [hwf, eq_comm (a := i.pattern c) (b := rowKey c r op)]
  by_cases hop : op = .dlcLen
  · subst hop
    simpa using dlcRow_met_iff c r hr i hi
  · simp [selector_and_mask c r op hop i hi, hop]

/-- The matches of CLASSIFY, read at the two flag bits. -/
theorem testBits_flagMasks (c : Cfg) (hne : c.rtrBit ≠ c.extBit) :
    (flagMask c.rtrBit).testBit c.rtrBit = true ∧ (flagMask c.rtrBit).testBit c.extBit = false ∧
      (flagMask c.extBit).testBit c.rtrBit = false ∧ (flagMask c.extBit).testBit c.extBit = true := by
  simp [testBit_flagMask, hne, hne.symm]

/-- No two rows of an operation have the same match. -/
theorem rows_pattern_nodup (c : Cfg) (hne : c.rtrBit ≠ c.extBit) (r : RawIn) (op : Op) :
    ((op.rows r).map (·.pattern c)).Nodup := by
  have hzero (n : Nat) : 0 ≠ flagMask n := (Nat.two_pow_pos n).ne
  obtain ⟨hrr, hre, her, hee⟩ := testBits_flagMasks c hne
  cases op with
  | classify =>
    apply List.Nodup.of_map fun m => (m.testBit c.rtrBit, m.testBit c.extBit)
    simp [Op.rows, Instr.pattern, hrr, hre, her, hee]
  | dlcLen =>
    simp only [Op.rows, Instr.pattern, List.map_cons, List.map_nil]
    decide
  | decode => simp [Op.rows]
  | tScale => simp [Op.rows]
  | idFmt => simp [Op.rows, Instr.pattern, hzero]
  | dataSel => simp [Op.rows, Instr.pattern, hzero]

/-- A one-flag mask keeps nothing or the flag. -/
theorem and_flagMask_eq_zero_or_self (f n : Nat) : f &&& flagMask n = 0 ∨ f &&& flagMask n = flagMask n := by
  rw [flagMask, Nat.and_two_pow]
  cases f.testBit n <;> simp

/-- Every value of the selecting field meets the match of some row. -/
theorem rowKey_mem (c : Cfg) (r : RawIn) (op : Op) : rowKey c r op ∈ (op.rows r).map (·.pattern c) := by
  have hrtr := and_flagMask_eq_zero_or_self r.flags.bits.toNat c.rtrBit
  have hext := and_flagMask_eq_zero_or_self r.flags.bits.toNat c.extBit
  cases op with
  | classify =>
    simp only [Op.rows, Instr.pattern, rowKey, Nat.and_or_distrib_left]
    rcases hrtr with hrtr | hrtr <;> rcases hext with hext | hext <;> simp [hrtr, hext]
  | dlcLen =>
    simp only [Op.rows, Instr.pattern, rowKey, dlcPattern, List.map_cons, List.map_nil, List.mem_cons, List.not_mem_nil]
    split_ifs <;> omega
  | decode => simp [Op.rows, Instr.pattern, rowKey]
  | tScale => simp [Op.rows, Instr.pattern, rowKey]
  | idFmt => simpa [Op.rows, Instr.pattern, rowKey] using hext
  | dataSel => simpa [Op.rows, Instr.pattern, rowKey] using hrtr

/-- The legal parameters put the two read flags on different bits (spec/00_scope.md R8). -/
theorem rtrBit_ne_extBit (c : Cfg) (hc : c.legal = true) : c.rtrBit ≠ c.extBit := by
  simp only [Cfg.legal, Bool.and_eq_true, decide_eq_true_iff] at hc
  exact hc.1.2

/-- Exactly one row of an operation is met. -/
theorem rows_filter_wf_length (c : Cfg) (r : RawIn) (hc : c.legal = true) (hr : r.fits c = true) (op : Op) :
    ((op.rows r).filter (·.wf c)).length = 1 := by
  have hkey : (op.rows r).countP (·.wf c) = ((op.rows r).map (·.pattern c)).count (rowKey c r op) := by
    rw [List.count, List.countP_map]
    apply List.countP_congr
    intro i hi
    simp [row_wf_iff c r hr op i hi]
  rw [← List.countP_eq_length_filter, hkey]
  exact List.count_eq_one_of_mem (rows_pattern_nodup c (rtrBit_ne_extBit c hc) r op) (rowKey_mem c r op)

/-- The decoder finds the row that is met. -/
theorem caseOf_eq_some_of_wf (c : Cfg) (r : RawIn) (hc : c.legal = true) (hr : r.fits c = true) (op : Op) (i : Instr)
    (hi : i ∈ op.rows r) (hwf : i.wf c = true) : caseOf c op r = some i := by
  obtain ⟨j, hj⟩ := List.length_eq_one_iff.1 (rows_filter_wf_length c r hc hr op)
  have hij : i ∈ (op.rows r).filter (·.wf c) := List.mem_filter.2 ⟨hi, hwf⟩
  obtain rfl : i = j := by simpa [hj] using hij
  rw [caseOf, ← List.head?_filter, hj, List.head?_cons]

/-- A case that the decoder gives is a row of its operation, and well formed. -/
theorem mem_rows_and_wf_of_caseOf (c : Cfg) (r : RawIn) (op : Op) (i : Instr) (h : caseOf c op r = some i) :
    i ∈ op.rows r ∧ i.wf c = true :=
  ⟨List.mem_of_find?_eq_some h, List.find?_some h⟩

/-- Every record of the block's widths selects a well-formed case of each operation. -/
theorem exists_caseOf (c : Cfg) (r : RawIn) (hc : c.legal = true) (hr : r.fits c = true) (op : Op) :
    ∃ i, caseOf c op r = some i ∧ i.op = op ∧ i.wf c = true := by
  obtain ⟨i, hi⟩ := List.length_eq_one_iff.1 (rows_filter_wf_length c r hc hr op)
  obtain ⟨hmem, hwf⟩ : i ∈ op.rows r ∧ i.wf c = true := List.mem_filter.1 (hi ▸ List.mem_singleton_self i)
  exact ⟨i, caseOf_eq_some_of_wf c r hc hr op i hmem hwf, op_of_mem_rows r op i hmem, hwf⟩

/-- Settles O17: just one row's match is the one that the record selects. -/
theorem everyRecordSelectsExactlyOneRow : Obligations.EveryRecordSelectsExactlyOneRow :=
  fun c op r hc hr => ⟨rows_filter_wf_length c r hc hr op, exists_caseOf c r hc hr op⟩

/-! ### Decode and encode (spec/30_encoding.md R80, R83) -/

/-- The record that a case's encoder lays out has the block's widths when the case has. -/
theorem toRaw_fits (c : Cfg) (i : Instr) (h : i.fits c = true) : (i.toRaw c).fits c = true := by
  cases i <;> simp_all [Instr.toRaw, Instr.fits, RawIn.fits, RawIn.blank]

/-- Every case is a row of its operation, filled from the record that its encoder lays out. -/
theorem mem_rows_toRaw (c : Cfg) (i : Instr) : i ∈ i.op.rows (i.toRaw c) := by
  suffices h : Laws.OwnRow.Statement i from h c
  open Laws.OwnRow in
  cases i
  exacts [decode _, classifyStd _, classifyExt _, classifyRtrStd _, classifyRtrExt _, idFmtStd _ _, idFmtExt _ _,
    dlc0 _, dlc1 _, dlc2 _, dlc3 _, dlc4 _, dlc5 _, dlc6 _, dlc7 _, dlc8 _, dlc9 _, dlc10 _, dlc11 _, dlc12 _,
    dlc13 _, dlc14 _, dlc15 _, dlcDegraded10 _, dlcDegraded20 _, dlcDegraded40 _, dlcDegraded80 _, tScale _,
    dataSelBytes _ _ _, dataSelRr _ _ _]

theorem decodeWord_encode (c : Cfg) (i : Instr) (hc : c.legal = true) (hwf : i.wf c = true) :
    decodeWord c i.op (encode c i) = .ok i := by
  have hfits : (i.toRaw c).fits c = true := by
    simp only [Instr.wf, Bool.and_eq_true] at hwf
    exact toRaw_fits c i hwf.1
  rw [decodeWord, encode, unpackTxnIn_packTxnIn c _ hfits,
    caseOf_eq_some_of_wf c _ hc hfits i.op i (mem_rows_toRaw c i) hwf]

@[simp] theorem encodeBytes_length (c : Cfg) (i : Instr) : (encodeBytes c i).length = txnInBytes c := by
  simp [encodeBytes]

/-- The encoder's bytes hold the word (log 17). -/
theorem wordOfBytes_encodeBytes (c : Cfg) (i : Instr) : wordOfBytes c (encodeBytes c i) = encode c i := by
  have hreach : txnInBits c ≤ 8 * txnInBytes c := by rw [txnInBytes]; omega
  have hbyte : ∀ k, k < txnInBytes c → (encodeBytes c i)[k]?.getD 0 = (encode c i).extractLsb' (8 * k) 8 := by
    intro k hk
    simp [encodeBytes, hk]
  rw [wordOfBytes, packBytes_congr _ hbyte, packBytes_extractLsb' _ _ hreach]

/-- Settles O14: the encoder's record selects the case, and packing loses nothing of it. -/
theorem decodeReadsBackEveryEncodedCase : Obligations.DecodeReadsBackEveryEncodedCase := by
  intro c i hc hwf
  have hword := decodeWord_encode c i hc hwf
  refine ⟨hword, ?_⟩
  rw [decodeBytes, if_pos (encodeBytes_length c i), wordOfBytes_encodeBytes, hword]

/-- A word decodes to a well-formed case of the operation that reads it. -/
theorem exists_decodeWord (c : Cfg) (hc : c.legal = true) (op : Op) (w : TxnIn c) :
    ∃ i, decodeWord c op w = .ok i ∧ i.op = op ∧ i.wf c = true := by
  obtain ⟨i, hi, hop, hwf⟩ := exists_caseOf c (unpackTxnIn c w) hc (unpackTxnIn_fits c w) op
  exact ⟨i, by rw [decodeWord, hi], hop, hwf⟩

/-- Settles O18: the length alone decides, since every word decodes. -/
theorem onlyTheFixedFormatIsDecoded : Obligations.OnlyTheFixedFormatIsDecoded := by
  refine ⟨rfl, fun c op bs => ⟨fun hlen => if_neg hlen, fun hc hlen => ?_⟩⟩
  rw [decodeBytes, if_pos hlen]
  exact exists_decodeWord c hc op (wordOfBytes c bs)

end Sys2Proof

namespace Sys2Proof.Machine

/-! ### What a case drives (spec/30_encoding.md R84) -/

/-- The ports of one operation driven from an output record. -/
def State.drivePorts (s : State) (o : DecOut) : Op → State
  | .decode => s.driveAll o
  | .classify => s.driveType o.type
  | .idFmt => s.driveId o.id
  | .dlcLen => s.driveLen o.len
  | .tScale => s.driveDsec o.dsec
  | .dataSel => ((s.driveDataRR o.dataRR).driveByteEn o.byteEn).drivePayload o.payload

@[simp] theorem drivePorts_cfg (s : State) (o : DecOut) (op : Op) : (s.drivePorts o op).cfg = s.cfg := by
  cases op <;> rfl

/-- Every instruction drives the ports of its own operation, and nothing else. -/
theorem exec_drives_own_ports (i : Instr) (s : State) : ∃ o, exec i s = .next (s.drivePorts o i.op) := by
  cases i with
  | decode r => exact ⟨decodeFrame s.cfg r, rfl⟩
  | classifyStd | classifyExt | classifyRtrStd | classifyRtrExt => exact ⟨{ s.datapath.data with type := _ }, rfl⟩
  | idFmtStd | idFmtExt => exact ⟨{ s.datapath.data with id := _ }, rfl⟩
  | tScale => exact ⟨{ s.datapath.data with dsec := _ }, rfl⟩
  | dataSelBytes | dataSelRr => exact ⟨{ s.datapath.data with dataRR := _, byteEn := _, payload := _ }, rfl⟩
  | _ => exact ⟨{ s.datapath.data with len := _ }, rfl⟩

/-- Settles O26: driving the ports of one operation leaves the ports of the others. -/
theorem operationsChangeOnlyTheirOwnPorts : Obligations.OperationsChangeOnlyTheirOwnPorts := by
  intro i s t h
  obtain ⟨o, ho⟩ := exec_drives_own_ports i s
  obtain rfl : s.drivePorts o i.op = t := by simpa [ho] using h
  cases i.op <;> simp [State.drivePorts]

/-! ### A row drives what its match says -/

theorem exec_classify_row (c : Cfg) (hne : c.rtrBit ≠ c.extBit) (r : RawIn) (s : State) : ∀ i ∈ Op.classify.rows r,
    exec i s = .next (s.driveType (classify ((i.pattern c).testBit c.extBit) ((i.pattern c).testBit c.rtrBit))) := by
  obtain ⟨hrr, hre, her, hee⟩ := testBits_flagMasks c hne
  simp [Op.rows, Instr.pattern, hrr, hre, her, hee, exec, classify, execClassifyStd, execClassifyExt, execClassifyRtrStd,
    execClassifyRtrExt]

theorem exec_idFmt_row (r : RawIn) (s : State) : ∀ i ∈ Op.idFmt.rows r,
    exec i s = .next (s.driveId (idFmt s.cfg ((i.pattern s.cfg).testBit s.cfg.extBit) r.id)) := by
  simp [Op.rows, Instr.pattern, testBit_flagMask, exec, idFmt, execIdFmtStd, execIdFmtExt]

theorem exec_dlcLen_row (c : Cfg) (r : RawIn) (s : State) : ∀ i ∈ Op.dlcLen.rows r,
    exec i s = .next (s.driveLen (dlcLen (BitVec.ofNat 8 (i.pattern c)))) := by
  simp only [Op.rows, Instr.pattern, List.forall_mem_cons, List.not_mem_nil, false_imp_iff, implies_true, and_true]
  and_intros <;> rfl

theorem exec_dataSel_row (c : Cfg) (r : RawIn) (s : State) (o : DecOut) : ∀ i ∈ Op.dataSel.rows r,
    o.dataRR = (i.pattern c).testBit c.rtrBit → o.byteEn = byteEn o.dataRR (dlcLen r.dlc.bits) → o.payload = r.payload →
    exec i s = .next (s.drivePorts o .dataSel) := by
  simp +contextual [Op.rows, Instr.pattern, testBit_flagMask, exec, execDataSelBytes, execDataSelRr, State.drivePorts]

/-- In range is below 16, whatever the width (D26). -/
theorem dlcInRange_iff {w : Nat} (d : BitVec w) : dlcInRange d = true ↔ d.toNat < 16 := by
  rw [dlcInRange, beq_iff_eq, ← BitVec.toNat_inj]
  simp [Nat.shiftRight_eq_div_pow]

/-- A length reads no more of a DLC than the number it is. -/
theorem dlcLen_congr {v w : Nat} (d : BitVec v) (e : BitVec w) (hrange : d.toNat < 16 ↔ e.toNat < 16)
    (hlow : d.toNat < 16 → d.toNat = e.toNat) : dlcLen d = dlcLen e := by
  unfold dlcLen
  by_cases hd : d.toNat < 16
  · have hentry : dlcLow d = dlcLow e := by
      apply BitVec.eq_of_toNat_eq
      simp [dlcLow, hlow hd]
    rw [if_pos ((dlcInRange_iff d).2 hd), if_pos ((dlcInRange_iff e).2 (hrange.1 hd)), hentry]
  · rw [if_neg (mt (dlcInRange_iff d).1 hd), if_neg (mt (dlcInRange_iff e).1 (mt hrange.2 hd))]

/-- The length of a DLC is that of the row it selects. -/
theorem dlcLen_dlcPattern {w : Nat} (d : BitVec w) : dlcLen (BitVec.ofNat 8 (dlcPattern d.toNat)) = dlcLen d := by
  apply dlcLen_congr <;> rw [BitVec.toNat_ofNat, dlcPattern] <;> split_ifs <;> omega

/-- The case that a record selects drives what DECODE drives on the ports of its operation. -/
theorem exec_of_caseOf (r : RawIn) (s : State) (hc : s.cfg.legal = true) (hr : r.fits s.cfg = true) (op : Op) (i : Instr)
    (h : caseOf s.cfg op r = some i) : exec i s = .next (s.drivePorts (decodeFrame s.cfg r) op) := by
  obtain ⟨hi, hwf⟩ := mem_rows_and_wf_of_caseOf s.cfg r op i h
  have hp : i.pattern s.cfg = rowKey s.cfg r op := (row_wf_iff s.cfg r hr op i hi).1 hwf
  cases op with
  | decode =>
    obtain rfl : i = .decode r := by simpa [Op.rows] using hi
    rfl
  | tScale =>
    obtain rfl : i = .tScale r.ts := by simpa [Op.rows] using hi
    rfl
  | classify =>
    rw [exec_classify_row s.cfg (rtrBit_ne_extBit s.cfg hc) r s i hi, hp]
    simp [rowKey, testBit_flagMask, BitVec.testBit_toNat, State.drivePorts, decodeFrame, extOf, rtrOf]
  | idFmt =>
    rw [exec_idFmt_row r s i hi, hp]
    simp [rowKey, testBit_flagMask, BitVec.testBit_toNat, State.drivePorts, decodeFrame, extOf]
  | dlcLen =>
    rw [exec_dlcLen_row s.cfg r s i hi, hp, rowKey, dlcLen_dlcPattern]
    rfl
  | dataSel =>
    apply exec_dataSel_row s.cfg r s (decodeFrame s.cfg r) i hi _ rfl rfl
    rw [hp]
    simp [rowKey, testBit_flagMask, BitVec.testBit_toNat, decodeFrame, rtrOf]

/-! ### The five operations in any order (spec/40_decode.md R102) -/

/-- The ports of one operation after another. -/
def State.driveInOrder (s : State) (o : DecOut) (ops : List Op) : State := ops.foldl (fun t op => t.drivePorts o op) s

/-- Executing the cases a record selects drives the ports of their operations. -/
theorem execAll_casesOf (c : Cfg) (r : RawIn) (hc : c.legal = true) (hr : r.fits c = true) (ops : List Op) :
    ∃ is, casesOf c r ops = some is ∧
      ∀ s : State, s.cfg = c → execAll is s = .next (s.driveInOrder (decodeFrame c r) ops) := by
  induction ops with
  | nil => exact ⟨[], rfl, fun _ _ => rfl⟩
  | cons op ops ih =>
    obtain ⟨i, hi, -⟩ := exists_caseOf c r hc hr op
    obtain ⟨is, his, hall⟩ := ih
    refine ⟨i :: is, by rw [casesOf, hi, his], ?_⟩
    rintro s rfl
    rw [execAll, exec_of_caseOf r s hc hr op i hi]
    exact hall _ (drivePorts_cfg s _ op)

/-- Two operations drive different ports, or the same with the same values. -/
theorem drivePorts_comm (s : State) (o : DecOut) (op₁ op₂ : Op) :
    (s.drivePorts o op₁).drivePorts o op₂ = (s.drivePorts o op₂).drivePorts o op₁ := by
  cases op₁ <;> cases op₂ <;> rfl

/-- In whatever order, the five operations drive the whole output record. -/
theorem driveInOrder_parallel (s : State) (o : DecOut) (ops : List Op) (h : ops.Perm Op.parallel) :
    s.driveInOrder o ops = { s with datapath := { s.datapath with data := o } } := by
  have horder : s.driveInOrder o ops = s.driveInOrder o Op.parallel :=
    h.foldl_eq' (fun op₁ _ op₂ _ t => drivePorts_comm t o op₁ op₂) s
  rw [horder]
  cases s
  rfl

/-- Settles O27: the cases drive the ports of their operations, and together they drive the record of DECODE. -/
theorem decodeIsItsFiveCasesInAnyOrder : Obligations.DecodeIsItsFiveCasesInAnyOrder := by
  intro s r ops hc hr hops
  obtain ⟨is, his, hall⟩ := execAll_casesOf s.cfg r hc hr ops
  refine ⟨is, _, his, hall s rfl, ?_⟩
  rw [driveInOrder_parallel s _ ops hops]
  rfl

/-! ### What DECODE drives, port by port (spec/30_encoding.md R74, R76, R82, R86) -/

/-- The byte enables are a run of ones from byte 0 (R82). -/
theorem byteEn_toNat (rtr : Bool) (len : Len) (hlen : len.toNat ≤ 64) :
    ∃ k, k ≤ 64 ∧ (byteEn rtr len).toNat = 2 ^ k - 1 := by
  cases rtr with
  | true => exact ⟨0, by simp [byteEn]⟩
  | false =>
    have hpow : 2 ^ len.toNat ≤ 2 ^ 64 := Nat.pow_le_pow_right (by omega) hlen
    refine ⟨len.toNat, hlen, ?_⟩
    simp only [byteEn, Bool.false_eq_true, if_false, BitVec.toNat_ofNat]
    omega

/-- Settles O41: the bounds of the length and the time, and the run of ones. -/
theorem unproducedEncodingsNeverAppear : Obligations.UnproducedEncodingsNeverAppear :=
  fun _ r => ⟨dlcLen_le r.dlc.bits, tsScale_le r.ts, byteEn_toNat _ _ (dlcLen_le r.dlc.bits)⟩

/-- DECODE reads the flag word at two bits (R74). -/
theorem decodeFrame_flags_congr (c : Cfg) (r : RawIn) (f : Flags) (hext : f.bits.getLsbD c.extBit = extOf c r)
    (hrtr : f.bits.getLsbD c.rtrBit = rtrOf c r) : decodeFrame c { r with flags := f } = decodeFrame c r := by
  have hext' : extOf c { r with flags := f } = extOf c r := hext
  have hrtr' : rtrOf c { r with flags := f } = rtrOf c r := hrtr
  simp only [decodeFrame, hext', hrtr']

/-- Settles O29: the two bits that DECODE reads are equal. -/
theorem unreadFlagsChangeNoOutput : Obligations.UnreadFlagsChangeNoOutput := by
  intro c r f h
  simp only [sameReadFlags, Bool.and_eq_true, beq_iff_eq] at h
  exact decodeFrame_flags_congr c r f h.1.symm h.2.symm

/-- Settles O30: each output of `decodeFrame` names its operands. -/
theorem eachOutputReadsOnlyItsOperands : Obligations.EachOutputReadsOnlyItsOperands := by
  intro c r q
  have hext (h : r.flags = q.flags) : extOf c r = extOf c q := by rw [extOf, h, extOf]
  have hrtr (h : r.flags = q.flags) : rtrOf c r = rtrOf c q := by rw [rtrOf, h, rtrOf]
  have hlen (h : r.dlc = q.dlc) : dlcLen r.dlc.bits = dlcLen q.dlc.bits := by rw [h]
  refine ⟨fun hf => ?_, fun hf hid => ?_, hlen, fun hf hd => ?_, congrArg tsScale, id⟩
  · simp only [decodeFrame, hext hf, hrtr hf, and_self]
  · simp only [decodeFrame, hext hf, hid]
  · simp only [decodeFrame, hrtr hf, hlen hd]

/-- Settles O20: each case is one drive of out.TYPE. -/
theorem classifyCasesDriveTheType : Obligations.ClassifyCasesDriveTheType :=
  fun _ _ => ⟨rfl, rfl, rfl, rfl⟩

/-- At this hardware's layout a frame's type is its flag bits 1 and 0 (R74). -/
theorem toRaw_type_of_flags8 (slot : Nat) (id : CanId) (flags : BitVec 8) (dlc : Dlc) (ts : Ticks) (bs : List Byte) :
    (decodeFrame Cfg.thisHardware (RawFrame.toRaw slot ⟨id, ⟨8, flags⟩, dlc, ts, bs⟩)).type =
      classify (flags.getLsbD 1) (flags.getLsbD 0) := rfl

/-- Settles O44: each pseudo-operation is a frame with its flags byte. -/
theorem pseudoOperationsHaveTheFourTypes : Obligations.PseudoOperationsHaveTheFourTypes := by
  intro slot id dlc ts bs
  refine ⟨_, _, _, _, rfl, rfl, rfl, rfl, rfl, rfl, rfl, rfl, ?_, ?_, ?_, ?_⟩ <;>
    rw [toRaw_type_of_flags8] <;> decide

/-! ### Words written out (spec/95_test_vectors.md 3) -/

/-- Settles O13, by decoding the two words. -/
theorem wordsWrittenOutDecode : Obligations.WordsWrittenOutDecode := by
  unfold Obligations.WordsWrittenOutDecode
  and_intros <;> decide +kernel

/-! ### What a slot fetches (R84) -/

@[simp] theorem slotStart_inp (s : State) : s.slotStart.inp = s.present.inp := by simp [State.slotStart]

@[simp] theorem slotStart_pipeReset (s : State) : s.slotStart.pipeReset = s.present.pipeReset := by simp [State.slotStart]

theorem slotStart_fetch_of_reset (s : State) (h : s.present.pipeReset = true) : s.slotStart.fetch = none :=
  (fetch_eq_none _).2 (.inl (by simpa using h))

/-- A slot whose ports hold a record without in.VALID fetches nothing. -/
theorem slotStart_of_idle (s : State) (r : RawIn) (h : s.present.inp = ⟨false, r⟩) :
    s.slotStart.inp = ⟨false, r⟩ ∧ s.slotStart.fetch = none := by
  have hinp : s.slotStart.inp = ⟨false, r⟩ := by simpa using h
  exact ⟨hinp, (fetch_eq_none _).2 (.inr (by rw [hinp]))⟩

/-- A slot without a frame has the idle ports. -/
theorem portsOf_of_no_frame (c : Cfg) (slot : Nat) (res : Option AdapterResult) (h : ∀ f, res ≠ some (.frame f)) :
    portsOf c slot res = ⟨false, idleRaw c slot⟩ := by
  rcases res with _ | (f | _ | code)
  · rfl
  · exact absurd rfl (h f)
  · rfl
  · rfl

/-- A step executes what the slot fetches, and then the host reports. -/
theorem step_of_fetch (s t : State) (i : Instr) (hf : s.slotStart.fetch = some i) (ht : exec i s.slotStart = .next t) :
    step s = .next t.report := by
  simp only [step, hf, ht]

/-- Settles O6: the first two clauses are the branches of `step`, the others what the host has presented. -/
theorem stepRunsTheDecodedTransaction : Obligations.StepRunsTheDecodedTransaction := by
  intro s
  refine ⟨fun i hf => ?_, fun hf => ?_, fun rst f rest hs => ?_, fun rst res rest hs hres => ?_, fun hs => ?_,
    fun res rest hs hlat => ?_, fun bs i hi hinp hr => ?_⟩
  · obtain ⟨g, hg⟩ := exec_changes_datapath i s.slotStart
    rw [hg]
    exact step_of_fetch s _ i hf hg
  · simp only [step, hf]
  · have hinp : s.slotStart.inp = ⟨true, f.toRaw s.draws⟩ := by simp [present_cons s _ rest hs, portsOf]
    refine ⟨hinp, fun hrst => (fetch_eq_some _ _).2 ⟨?_, by rw [hinp], by rw [hinp]⟩⟩
    rw [slotStart_pipeReset, present_pipeReset s _ rest hs]
    rcases hrst with rfl | hlat
    · rfl
    · simp [hlat]
  · apply slotStart_of_idle
    rw [present_cons s _ rest hs]
    exact portsOf_of_no_frame s.cfg s.draws res hres
  · apply slotStart_of_idle
    rw [present_nil s hs]
  · apply slotStart_fetch_of_reset
    simp [present_pipeReset s _ rest hs, hlat]
  · have hlen : bs.length = txnInBytes s.cfg := by
      by_contra hne
      simp [decodeBytes, hne] at hi
    rw [decodeBytes, if_pos hlen, decodeWord_decode, Except.ok.injEq] at hi
    exact (fetch_eq_some _ _).2 ⟨hr, by rw [hinp], by rw [hinp, hi]⟩

end Sys2Proof.Machine
end

section
/-! PROOFS of spec/40_decode.md: the closed form of each output port, and what a degraded DLC changes. -/

namespace Sys2Proof.Machine

/-! ### The closed forms -/

/-- The type is `{rtr, ext}` (spec/41_classifier.md R121). -/
theorem classify_eq_append (ext rtr : Bool) : classify ext rtr = BitVec.ofBool rtr ++ BitVec.ofBool ext := by
  decide +revert

/-- The standard mask keeps the low 11 bits (spec/42_id_formatter.md R141). -/
theorem and_stdIdMask (id : CanId) : id &&& Config.stdIdMask = (id.extractLsb' 0 11).setWidth 32 := by
  have hmask : id.toNat &&& 2047 = id.toNat % 2048 := Nat.and_two_pow_sub_one_eq_mod id.toNat 11
  apply BitVec.eq_of_toNat_eq
  simp (disch := omega) [Config.stdIdMask, hmask, Nat.mod_eq_of_lt]

/-- The ID of its domain (spec/42_id_formatter.md R140). -/
theorem idFmt_eq (c : Cfg) (ext : Bool) (id : CanId) :
    idFmt c ext id = if ext then id &&& c.extIdMask else (id.extractLsb' 0 11).setWidth 32 := by
  rw [idFmt, and_stdIdMask]

/-- Quotient and carry are the quotient of the time plus half a tenth (spec/44_timestamp_scaler.md R181). -/
theorem tsScale_toNat_eq_div (ts : Ticks) : (tsScale ts).toNat = (ts.toNat + 50000) / 100000 := by
  rw [tsScale_toNat]
  split <;> omega

/-- Settles O19: DECODE drives `decodeFrame`, whose ports have the closed forms above. -/
theorem decodeDrivesEveryPort : Obligations.DecodeDrivesEveryPort :=
  fun s r => ⟨decodeFrame s.cfg r, execDecode_eq r s, rfl, classify_eq_append _ _, idFmt_eq _ _ _, rfl,
    tsScale_toNat_eq_div r.ts, rfl, byteEn_getLsbD _ _, rfl⟩

/-! ### A degraded DLC (R103) -/

/-- A degraded DLC has length 0 (spec/43_dlc_lut.md R161). -/
theorem dlcLen_of_degraded {w : Nat} (d : BitVec w) (h : 15 < d.toNat) : dlcLen d = 0 := by
  have hrange : ¬ dlcInRange d = true := by
    rw [dlcInRange_iff]
    omega
  rw [dlcLen, if_neg hrange]

/-- A frame of length 0 enables no byte, remote or not (spec/45_data_select.md R201). -/
@[simp] theorem byteEn_zero (rtr : Bool) : byteEn rtr 0 = 0 := by
  cases rtr <;> rfl

/-- DECODE reads the DLC for the length, and through it for the byte enables (R103). -/
theorem decodeFrame_with_dlc (c : Cfg) (r : RawIn) (d : Dlc) :
    decodeFrame c { r with dlc := d } =
      { decodeFrame c r with len := dlcLen d.bits, byteEn := byteEn (rtrOf c r) (dlcLen d.bits) } := rfl

/-- Settles O35: the length that DECODE reads from a degraded DLC is 0, and so it enables no byte. -/
theorem degradedDlcChangesOnlyLengthAndWindow : Obligations.DegradedDlcChangesOnlyLengthAndWindow := by
  intro c r d h
  rw [decodeFrame_with_dlc, dlcLen_of_degraded d.bits h, byteEn_zero]

end Sys2Proof.Machine
end

section
/-! PROOFS of spec/41_classifier.md: the type as the two flags. -/

namespace Sys2Proof.Machine

/-- Settles O28: the closed form of the type that DECODE drives, R121. -/
theorem classifyIsTheTwoFlags : Obligations.ClassifyIsTheTwoFlags := classify_eq_append

end Sys2Proof.Machine
end

section
/-! PROOFS of spec/42_id_formatter.md: the ID of each addressing domain. -/

namespace Sys2Proof.Machine

/-- Settles O21: each case is one drive of out.ID; the standard mask keeps the low 11 bits. -/
theorem idFmtCasesDriveTheId : Obligations.IdFmtCasesDriveTheId := by
  intro s f x
  rw [← and_stdIdMask]
  exact ⟨rfl, rfl⟩

/-- DECODE gives a standard frame the ID of the standard domain (R140). -/
theorem decodeFrame_id_of_standard (c : Cfg) (r : RawIn) (h : r.flags.bits.getLsbD c.extBit = false) :
    (decodeFrame c r).id = idFmt c false r.id :=
  congrArg (idFmt c · r.id) h

/-- DECODE gives an extended frame the ID under EXT_ID_MASK (R140). -/
theorem decodeFrame_id_of_extended (c : Cfg) (r : RawIn) (h : r.flags.bits.getLsbD c.extBit = true) :
    (decodeFrame c r).id = r.id &&& c.extIdMask :=
  congrArg (idFmt c · r.id) h

/-- Settles O31: the closed form of the standard domain (R141), and its bound (R143). -/
theorem standardIdIsItsLowElevenBits : Obligations.StandardIdIsItsLowElevenBits := by
  intro c r hstd
  rw [decodeFrame_id_of_standard c r hstd]
  exact ⟨idFmt_eq c false r.id, idFmt_standard_le c r.id⟩

/-- This hardware's extended mask keeps every bit (R142). -/
theorem and_extIdMaskFull (id : CanId) : id &&& Config.extIdMaskFull = id :=
  BitVec.and_allOnes

/-- The other legal extended mask keeps the low 29 bits (R142). -/
theorem and_extIdMask29 (id : CanId) : id &&& Config.extIdMask29 = (id.extractLsb' 0 29).setWidth 32 := by
  have hmask : id.toNat &&& 0x1FFFFFFF = id.toNat % 2 ^ 29 := Nat.and_two_pow_sub_one_eq_mod id.toNat 29
  apply BitVec.eq_of_toNat_eq
  simp (disch := omega) [Config.extIdMask29, hmask, Nat.mod_eq_of_lt]

/-- An ID of 29 bits is its low 29 bits. -/
theorem setWidth_extractLsb'_29_of_le (id : CanId) (h : id.toNat ≤ 0x1FFFFFFF) : (id.extractLsb' 0 29).setWidth 32 = id := by
  apply BitVec.eq_of_toNat_eq
  simp (disch := omega) [Nat.mod_eq_of_lt]

/-- The two legal values of EXT_ID_MASK (spec/00_scope.md R8). -/
theorem extIdMask_of_legal (c : Cfg) (hc : c.legal = true) :
    c.extIdMask = Config.extIdMaskFull ∨ c.extIdMask = Config.extIdMask29 := by
  simp only [Cfg.legal, Bool.and_eq_true, Bool.or_eq_true, beq_iff_eq] at hc
  exact hc.2

/-- Settles O32: the two legal masks, which agree on an ID of 29 bits. -/
theorem extendedIdPassesItsMask : Obligations.ExtendedIdPassesItsMask := by
  intro c r hext
  have hfull (h : c.extIdMask = Config.extIdMaskFull) : (decodeFrame c r).id = r.id := by
    rw [decodeFrame_id_of_extended c r hext, h, and_extIdMaskFull]
  have h29 (h : c.extIdMask = Config.extIdMask29) : (decodeFrame c r).id = (r.id.extractLsb' 0 29).setWidth 32 := by
    rw [decodeFrame_id_of_extended c r hext, h, and_extIdMask29]
  refine ⟨hfull, h29, fun hc hid => ?_⟩
  obtain h | h := extIdMask_of_legal c hc
  · exact hfull h
  · rw [h29 h, setWidth_extractLsb'_29_of_le r.id hid]

end Sys2Proof.Machine
end

section
/-! PROOFS of spec/43_dlc_lut.md: the properties of the table, and its rows. -/

namespace Sys2Proof.Machine

/-! ### The table over its four-bit index (R160) -/

/-- Up to 8 an entry is its index. -/
theorem dlcEntry_toNat_of_le_eight (lo : BitVec 4) (h : lo.toNat ≤ 8) : (dlcEntry lo).toNat = lo.toNat := by
  decide +revert

theorem dlcEntry_lt_dlcEntry (lo hi : BitVec 4) (h : lo.toNat < hi.toNat) : (dlcEntry lo).toNat < (dlcEntry hi).toNat := by
  decide +revert

/-- From 9 up an entry is a multiple of 4. -/
theorem dlcEntry_mod_four (lo : BitVec 4) (h : 9 ≤ lo.toNat) : (dlcEntry lo).toNat % 4 = 0 := by
  decide +revert

/-! ### The table at any width of in.DLC (R164) -/

/-- In range, the table index is the DLC itself. -/
theorem dlcLow_toNat_of_lt {w : Nat} (d : BitVec w) (h : d.toNat < 16) : (dlcLow d).toNat = d.toNat := by
  simpa [dlcLow] using Nat.mod_eq_of_lt h

/-- In range, the length is the table's entry (R160). -/
theorem dlcLen_of_lt {w : Nat} (d : BitVec w) (h : d.toNat < 16) : dlcLen d = dlcEntry (dlcLow d) := by
  rw [dlcLen, if_pos ((dlcInRange_iff d).2 h)]

theorem dlcLen_toNat_of_le_eight {w : Nat} (d : BitVec w) (h : d.toNat ≤ 8) : (dlcLen d).toNat = d.toNat := by
  have hlow := dlcLow_toNat_of_lt d (by omega)
  rw [dlcLen_of_lt d (by omega), dlcEntry_toNat_of_le_eight _ (by omega), hlow]

theorem dlcLen_lt_dlcLen {w : Nat} (d e : BitVec w) (h : d.toNat < e.toNat) (he : e.toNat ≤ 15) :
    (dlcLen d).toNat < (dlcLen e).toNat := by
  have hd_low := dlcLow_toNat_of_lt d (by omega)
  have he_low := dlcLow_toNat_of_lt e (by omega)
  rw [dlcLen_of_lt d (by omega), dlcLen_of_lt e (by omega)]
  exact dlcEntry_lt_dlcEntry _ _ (by omega)

theorem dlcLen_mod_four {w : Nat} (d : BitVec w) (h : 9 ≤ d.toNat) (hd : d.toNat ≤ 15) : (dlcLen d).toNat % 4 = 0 := by
  have hlow := dlcLow_toNat_of_lt d (by omega)
  rw [dlcLen_of_lt d (by omega)]
  exact dlcEntry_mod_four _ (by omega)

/-- Settles O33: in range the properties are the table's, and a degraded DLC has length 0. -/
theorem dlcTableProperties : Obligations.DlcTableProperties :=
  fun _ d e _ => ⟨dlcLen_toNat_of_le_eight d, dlcLen_of_degraded d, dlcLen_lt_dlcLen d e, dlcLen_mod_four d, dlcLen_le d⟩

/-- Settles O34: the sixteen entries, and the length of a degraded DLC. -/
theorem dlcTableIsReproducedExactly : Obligations.DlcTableIsReproducedExactly :=
  ⟨by decide, dlcLen_of_degraded⟩

/-! ### The rows -/

/-- Settles O22: each row is one drive of out.LEN with its entry. -/
theorem dlcTableRowsDriveTheLength : Obligations.DlcTableRowsDriveTheLength := by
  intro s d next
  and_intros <;> rfl

/-- Settles O23: each row is one drive of out.LEN with 0. -/
theorem degradedDlcRowsDriveLengthZero : Obligations.DegradedDlcRowsDriveLengthZero :=
  fun _ _ => ⟨rfl, rfl, rfl, rfl⟩

end Sys2Proof.Machine
end

section
/-! PROOFS of spec/44_timestamp_scaler.md: the drive of out.DSEC, the nearest tenth, and the range. -/

namespace Sys2Proof.Machine

/-- Settles O24: TSCALE is one drive of out.DSEC, with the exact quotient and carry. -/
theorem tScaleDrivesTheTime : Obligations.TScaleDrivesTheTime :=
  fun _ ts => ⟨tsScale ts, rfl, tsScale_toNat ts⟩

/-! ### The nearest tenth (R181) -/

/-- The scaled time is at most half a tenth away from the tick count. -/
theorem abs_tsScale_mul_sub_le (ts : Ticks) : |((tsScale ts).toNat * 100000 : Int) - ts.toNat| ≤ 50000 := by
  have hdiv := tsScale_toNat_eq_div ts
  exact abs_le.2 ⟨by omega, by omega⟩

/-- Every other number of tenths is at least half a tenth away from the tick count. -/
theorem le_abs_mul_sub_of_ne_tsScale (ts : Ticks) (n : Nat) (hn : n ≠ (tsScale ts).toNat) :
    50000 ≤ |(n * 100000 : Int) - ts.toNat| := by
  have hdiv := tsScale_toNat_eq_div ts
  obtain hlt | hgt := Nat.lt_or_gt_of_ne hn
  · exact le_abs.2 (.inr (by omega))
  · exact le_abs.2 (.inl (by omega))

/-- At an exact half the scaled time is the larger neighbour. -/
theorem tsScale_mul_of_half (ts : Ticks) (h : ts.toNat % 100000 = 50000) :
    (tsScale ts).toNat * 100000 = ts.toNat + 50000 := by
  have hdiv := tsScale_toNat_eq_div ts
  omega

/-- Settles O37: half a tenth separates the scaled time from every other number of tenths. -/
theorem tScaleIsTheNearestTenth : Obligations.TScaleIsTheNearestTenth := by
  refine fun ts => ⟨tsScale_toNat_eq_div ts, fun n => ?_, tsScale_mul_of_half ts⟩
  by_cases hn : n = (tsScale ts).toNat
  · rw [hn]
  · exact (abs_tsScale_mul_sub_le ts).trans (le_abs_mul_sub_of_ne_tsScale ts n hn)

/-! ### The range (R183) -/

/-- The largest tick count gives the bound of `tsScale_le`. -/
theorem tsScale_allOnes_toNat : (tsScale (BitVec.allOnes 64)).toNat = 184467440737096 := by
  decide

/-- Settles O38: the bound on every output is attained at the largest tick count. -/
theorem tScaleRange : Obligations.TScaleRange := by
  refine ⟨fun ts => ⟨tsScale_toNat ts, ?_⟩, tsScale_allOnes_toNat, by decide, by decide⟩
  rw [tsScale_allOnes_toNat]
  exact tsScale_le ts

end Sys2Proof.Machine
end

section
/-! PROOFS of spec/45_data_select.md: the remote short-circuit, the window of enabled bytes, and the payload. -/

namespace Sys2Proof.Machine

/-- The window of a data frame (R201). -/
theorem byteEn_data_getLsbD (len : Len) (i : Nat) (hi : i < 64) :
    (byteEn false len).getLsbD i = decide (i < len.toNat) := by
  rw [byteEn_getLsbD false len i hi, Bool.not_false, Bool.true_and]

/-- Settles O25: each case is one drive of the three data ports; the bytes of a data frame are enabled by its window. -/
theorem dataSelCasesDriveTheDataPorts : Obligations.DataSelCasesDriveTheDataPorts :=
  fun _ _ d _ => ⟨⟨byteEn false (dlcLen d.bits), rfl, byteEn_data_getLsbD (dlcLen d.bits)⟩, rfl⟩

/-- Settles O39: DECODE drives out.BYTE_EN with the window of the record's remote flag and table length. -/
theorem byteEnablesAreTheWindow : Obligations.ByteEnablesAreTheWindow :=
  ⟨byteEn_getLsbD, fun c r => byteEn_getLsbD (rtrOf c r) (dlcLen r.dlc.bits)⟩

/-- Settles O40: DECODE drives out.DATA_RR with the remote flag (R200), and reads out.LEN from the DLC alone (R160). -/
theorem remoteFrameKeepsItsLength : Obligations.RemoteFrameKeepsItsLength :=
  fun _ _ => ⟨rfl, rfl⟩

/-- The one state that DECODE answers: the record's decoded frame stands on the output ports, and nothing else changes. -/
theorem eq_of_exec_decode_eq_next (r : RawIn) (s t : State) (h : exec (.decode r) s = .next t) :
    t = { s with datapath := ⟨true, decodeFrame s.cfg r⟩ } :=
  (Host.Outcome.next.inj ((execDecode_eq r s).symm.trans h)).symm

/-- Settles O42: the decoded frame that DECODE answers has the record's payload. -/
theorem payloadPassesThroughUnchanged : Obligations.PayloadPassesThroughUnchanged := by
  intro s t r i h _
  rw [eq_of_exec_decode_eq_next r s t h, decodeFrame]

end Sys2Proof.Machine
end

section
/-! PROOFS of spec/49_reporter_rendering.md: numerals and their digits, then the four texts. -/

namespace Sys2Proof.Machine

/-! ### Numerals (R222, R224) -/

/-- `ds` is the numeral of `n` in `base`: most significant digit first, no leading zeros, the one digit 0 for zero. -/
structure IsNumeral (base n : Nat) (ds : List Nat) : Prop where
  lt_base         : ∀ d ∈ ds, d < base
  value           : Nat.ofDigits base ds.reverse = n
  ne_nil          : ds ≠ []
  no_leading_zero : ds.head? = some 0 → ds = [0]

theorem isNumeral_zero {base : Nat} (hb : 0 < base) : IsNumeral base 0 [0] where
  lt_base := by simpa using hb
  value := by simp
  ne_nil := by simp
  no_leading_zero := fun _ => rfl

/-- The digits of a number other than 0 are its numeral: the most significant of them is not 0. -/
theorem isNumeral_digits {base n : Nat} (hb : 1 < base) (hn : n ≠ 0) : IsNumeral base n (Nat.digits base n).reverse where
  lt_base := fun _ hd => Nat.digits_lt_base hb (List.mem_reverse.1 hd)
  value := by rw [List.reverse_reverse, Nat.ofDigits_digits]
  ne_nil := by simpa [Nat.digits_eq_nil_iff_eq_zero] using hn
  no_leading_zero := fun h => by
    rw [List.head?_reverse, List.getLast?_eq_some_getLast (Nat.digits_ne_nil_iff_ne_zero.2 hn)] at h
    exact absurd (Option.some.inj h) (Nat.getLast_digit_ne_zero base hn)

/-- As many steps as a number has bits find all its digits, since each step at least halves it. -/
theorem digitsOf_eq_digits {base : Nat} (hb : 1 < base) (fuel n : Nat) (hn : n ≠ 0) (hfuel : n < 2 ^ fuel) :
    digitsOf base fuel n = Nat.digits base n := by
  induction fuel generalizing n with
  | zero => exact absurd (Nat.lt_one_iff.1 hfuel) hn
  | succ fuel ih =>
    rw [digitsOf]
    split
    case isTrue hlt => rw [Nat.digits_of_lt base n hn hlt]
    case isFalse hge =>
      have hquot : n / base ≠ 0 := (Nat.div_pos (Nat.le_of_not_lt hge) (by omega)).ne'
      have hhalf : n / base < 2 ^ fuel := by
        refine Nat.div_lt_of_lt_mul (hfuel.trans_le ?_)
        rw [pow_succ']
        exact Nat.mul_le_mul_right _ hb
      rw [ih _ hquot hhalf, Nat.digits_eq_cons_digits_div hb hn]

/-- The characters of `numeral` are those of the number's numeral. -/
theorem exists_isNumeral_numeral {base : Nat} (hb : 1 < base) (n : Nat) :
    ∃ ds, IsNumeral base n ds ∧ numeral base n = ds.map digitChar := by
  by_cases hn : n = 0
  · subst hn
    exact ⟨[0], isNumeral_zero (by omega), by simp [numeral, digitsOf, Nat.zero_lt_of_lt hb]⟩
  · refine ⟨_, isNumeral_digits hb hn, ?_⟩
    rw [numeral, digitsOf_eq_digits hb _ n hn Nat.lt_log2_self, List.map_reverse]

theorem numeral_of_lt {base n : Nat} (h : n < base) : numeral base n = [digitChar n] := by
  simp [numeral, digitsOf, h]

theorem numeral_of_two_digits {base n : Nat} (hb : 1 < base) (hn : base ≤ n) (hquot : n / base < base) :
    numeral base n = [digitChar (n / base), digitChar (n % base)] := by
  obtain ⟨k, hk⟩ : ∃ k, n.log2 = k + 1 :=
    Nat.exists_eq_add_of_le' ((Nat.le_log2 (by omega)).2 (by omega))
  simp [numeral, hk, digitsOf, Nat.not_lt.2 hn, hquot]

/-- The digits 0 to 9 and A to F (R222). -/
theorem digitChar_eq_hex {d : Nat} (h : d < 16) : digitChar d = "0123456789ABCDEF".toList.getD d '?' := by
  revert d
  decide

/-- The decimal digits (R224). -/
theorem digitChar_eq_dec {d : Nat} (h : d < 10) : digitChar d = "0123456789".toList.getD d '?' := by
  revert d
  decide

/-! ### The type, the ID and the time (R221, R222, R224) -/

/-- Settles O45: the four branches of `typeLabel`. -/
theorem typeLabelsAreExact : Obligations.TypeLabelsAreExact := ⟨rfl, rfl, rfl, rfl⟩

/-- Settles O46: the digits of the ID's numeral, each shown as a hexadecimal digit. -/
theorem idTextIsTheHexadecimalNumeral : Obligations.IdTextIsTheHexadecimalNumeral := by
  intro id
  obtain ⟨ds, hds, htext⟩ := exists_isNumeral_numeral (base := 16) (by decide) id.toNat
  refine ⟨ds, ?_, hds.lt_base, hds.value, hds.ne_nil, hds.no_leading_zero⟩
  rw [idText, hexText, htext, List.map_congr_left fun d hd => digitChar_eq_hex (hds.lt_base d hd)]

/-- Settles O47: the digits of the seconds' numeral, and the tenths, which are one digit. -/
theorem timeTextIsSecondsPointTenths : Obligations.TimeTextIsSecondsPointTenths := by
  intro t
  obtain ⟨ds, hds, htext⟩ := exists_isNumeral_numeral (base := 10) (by decide) (t.toNat / 10)
  have htenth : t.toNat % 10 < 10 := Nat.mod_lt _ (by decide)
  refine ⟨ds, ?_, hds.lt_base, hds.value, hds.ne_nil, hds.no_leading_zero⟩
  rw [timeText, decText, decText, htext, numeral_of_lt htenth, digitChar_eq_dec htenth,
    List.map_congr_left fun d hd => digitChar_eq_dec (hds.lt_base d hd), String.ofList_append, String.append_assoc]
  exact congrArg _ (String.ofList_append (l₁ := ['.'])).symm

/-! ### The data (R225) -/

/-- A number below 16 has the one digit it is. -/
theorem hexText_of_lt {n : Nat} (h : n < 16) : hexText n = String.ofList ["0123456789ABCDEF".toList.getD n '?'] := by
  rw [hexText, numeral_of_lt h, digitChar_eq_hex h]

/-- A byte's value from 16 up needs no zero in front. -/
theorem hexPadded_two_of_le {n : Nat} (h : 16 ≤ n) (hn : n < 256) : hexPadded 2 n = hexText n := by
  simp [hexPadded, hexText, numeral_of_two_digits (base := 16) (by decide) h (by omega)]

/-- A byte's value in two digits is its quotient and its remainder by 16, also when the quotient is 0. -/
theorem hexPadded_two {n : Nat} (hn : n < 256) :
    hexPadded 2 n = String.ofList
      ["0123456789ABCDEF".toList.getD (n / 16) '?', "0123456789ABCDEF".toList.getD (n % 16) '?'] := by
  obtain h | h := Nat.lt_or_ge n 16
  · rw [Nat.div_eq_of_lt h, Nat.mod_eq_of_lt h, ← digitChar_eq_hex h, hexPadded, numeral_of_lt h]
    rfl
  · have hquot : n / 16 < 16 := by omega
    rw [hexPadded_two_of_le h hn, hexText, numeral_of_two_digits (by decide) h hquot, digitChar_eq_hex hquot,
      digitChar_eq_hex (Nat.mod_lt n (by decide))]

/-- The indices below a bound, among more of them. -/
theorem filter_range_lt {m n : Nat} (h : m ≤ n) : ((List.range n).filter fun i => decide (i < m)) = List.range m := by
  obtain ⟨k, rfl⟩ := Nat.exists_eq_add_of_le h
  have hin : ((List.range m).filter fun i => decide (i < m)) = List.range m :=
    List.filter_eq_self.2 fun i hi => decide_eq_true (List.mem_range.1 hi)
  have hout : (((List.range k).map (m + ·)).filter fun i => decide (i < m)) = [] :=
    List.filter_eq_nil_iff.2 (by simp)
  rw [List.range_add, List.filter_append, hin, hout, List.append_nil]

/-- A data frame shows its payload up to the length of its DLC (R201). -/
theorem shownBytes_of_data_frame (c : Cfg) (r : RawIn) (hrtr : rtrOf c r = false) :
    shownBytes (decodeFrame c r) = (List.range (dlcLen r.dlc.bits).toNat).map r.payload.byte := by
  have hwindow : ∀ i ∈ List.range payloadCap,
      (decodeFrame c r).byteEn.getLsbD i = decide (i < (dlcLen r.dlc.bits).toNat) := by
    intro i hi
    rw [decodeFrame, hrtr]
    exact byteEn_data_getLsbD (dlcLen r.dlc.bits) i (List.mem_range.1 hi)
  rw [shownBytes, List.filter_congr hwindow, filter_range_lt (dlcLen_le r.dlc.bits), decodeFrame]

theorem dataText_of_remote (pad : HexBytePad) (o : DecOut) (h : o.dataRR = true) : dataText pad o = "Remote Request" :=
  if_pos h

theorem dataText_of_data (pad : HexBytePad) (o : DecOut) (h : o.dataRR = false) :
    dataText pad o = joinSpace ((shownBytes o).map (hexByte pad)) :=
  if_neg (by simp [h])

/-- Settles O48: the window of a data frame is a run from byte 0, and a byte below 256 has at most two digits. -/
theorem dataTextShowsTheWindow : Obligations.DataTextShowsTheWindow := by
  refine ⟨fun pad c r => ⟨dataText_of_remote pad (decodeFrame c r), fun hrtr => ?_⟩, rfl, fun _ => rfl, fun _ _ _ => rfl,
    fun b => hexPadded_two b.isLt, fun _ h => hexText_of_lt h, fun b h => (hexPadded_two_of_le h b.isLt).symm⟩
  rw [dataText_of_data pad (decodeFrame c r) hrtr, shownBytes_of_data_frame c r hrtr, List.map_map]
  rfl

end Sys2Proof.Machine
end

section
/-! PROOFS of spec/60_exceptions.md: no run stops, the events of a run, and the frame that is both degraded and remote. A run
is the iterate of its slot; what the host has reported, what it has still to report of the results it awaits, and what it will
report of its script are together the same before and after a slot. -/

namespace Sys2Proof.Machine

/-! ### A run is the iterate of its slot (R300) -/

/-- The state after one slot: a step always answers it. -/
def State.afterSlot (s : State) : State := s.evaluated.report

theorem run_eq_iterate (n : Nat) (s : State) : runSlots n s = .next (State.afterSlot^[n] s) := by
  induction n generalizing s with
  | zero => rfl
  | succ n ih => rw [run_succ_of_next n s _ (step_eq_evaluated s), ← State.afterSlot, ih, Function.iterate_succ_apply]

/-- Settles O5: `Fault` has no constructor, and every run answers the iterate of its slot. -/
theorem noSequenceOfSlotsStops : Obligations.NoSequenceOfSlotsStops :=
  ⟨(nomatch ·), fun s n => ⟨_, run_eq_iterate n s⟩⟩

@[simp] theorem afterSlot_cfg (s : State) : s.afterSlot.cfg = s.cfg := by simp [State.afterSlot]
@[simp] theorem afterSlot_script (s : State) : s.afterSlot.script = s.script.tail := by simp [State.afterSlot]
@[simp] theorem afterSlot_datapath (s : State) : s.afterSlot.datapath = s.slotResult := by simp [State.afterSlot]
@[simp] theorem afterSlot_pipe (s : State) : s.afterSlot.pipe = s.evaluated.pipe := by simp [State.afterSlot]
@[simp] theorem afterSlot_draws (s : State) : s.afterSlot.draws = s.draws + 1 := by
  simp [State.afterSlot, State.evaluated, State.slotStart]

theorem iterate_afterSlot_cfg (n : Nat) (s : State) : (State.afterSlot^[n] s).cfg = s.cfg :=
  parametersNeverChange n s _ (run_eq_iterate n s)

theorem iterate_afterSlot_script (n : Nat) (s : State) : (State.afterSlot^[n] s).script = s.script.drop n := by
  induction n with
  | zero => rfl
  | succ n ih => rw [Function.iterate_succ_apply', afterSlot_script, ih, List.tail_drop]

theorem iterate_afterSlot_inv (n : Nat) (s : State) (hs : s.Inv) : (State.afterSlot^[n] s).Inv :=
  Function.Iterate.rec State.Inv hs evaluated_report_inv n

/-! ### The results in the pipeline -/

/-- The result that a place holds, if it holds one. -/
def Stage.result (g : Stage) : Option DecOut := if g.valid then some g.data else none

theorem Stage.result_of_invalid (g : Stage) (h : g.valid = false) : g.result = none := by simp [Stage.result, h]

/-- The results in the datapath and the pipeline, the one on the output ports among them, oldest first. -/
def State.results (s : State) : List DecOut := ((s.datapath :: s.pipe).filterMap Stage.result).reverse

theorem filter_valid_map_data (gs : List Stage) : (gs.filter (·.valid)).map (·.data) = gs.filterMap Stage.result := by
  induction gs with
  | nil => rfl
  | cons g gs ih => cases hv : g.valid <;> simp [hv, ih, Stage.result]

theorem inFlight_eq (s : State) : s.inFlight = ((s.datapath :: s.pipe).dropLast.filterMap Stage.result).reverse := by
  rw [State.inFlight, filter_valid_map_data]

/-- The result on the output ports is the oldest, the others are in flight. -/
theorem results_eq_readOut_append (s : State) : s.results = s.readOut.toList ++ s.inFlight := by
  have hout : s.out.result = s.readOut := rfl
  rw [State.results, ← List.dropLast_append_getLast (List.cons_ne_nil s.datapath s.pipe), ← out_eq_getLast,
    List.filterMap_append, List.reverse_append, ← inFlight_eq, ← hout]
  cases h : s.out.result <;> simp [h]

/-- Without reset, what was in flight moves one place and the slot's own result comes behind it. -/
theorem evaluated_results (s : State) (hp : s.pipe.length = s.cfg.latency) (hr : s.present.pipeReset = false) :
    s.evaluated.results = s.inFlight ++ s.slotResult.result.toList := by
  have hpipe : s.evaluated.pipe = (s.datapath :: s.pipe).dropLast := by
    simp [evaluated_pipe_of_no_reset s hr, List.dropLast_eq_take, hp]
  rw [State.results, evaluated_datapath, hpipe, inFlight_eq, List.filterMap_cons]
  cases s.slotResult.result <;> simp

/-! ### The events of what the host awaits (R316, R320; log 13) -/

/-- The Reporter events of the awaited results, when the awaited transactions have these results. -/
def awaitedEvents : List Awaited → List DecOut → List Event
  | .transaction :: ws, o :: os => .frame o :: awaitedEvents ws os
  | .transaction :: _, [] => []
  | .empty :: ws, os => .empty :: awaitedEvents ws os
  | .error code :: ws, os => .error code :: awaitedEvents ws os
  | [], _ => []

@[simp] theorem awaitedEvents_nil (os : List DecOut) : awaitedEvents [] os = [] := by cases os <;> rfl
@[simp] theorem awaitedEvents_transaction (ws : List Awaited) (o : DecOut) (os : List DecOut) :
    awaitedEvents (.transaction :: ws) (o :: os) = .frame o :: awaitedEvents ws os := rfl
@[simp] theorem awaitedEvents_empty (ws : List Awaited) (os : List DecOut) :
    awaitedEvents (.empty :: ws) os = .empty :: awaitedEvents ws os := by cases os <;> rfl
@[simp] theorem awaitedEvents_error (code : Nat) (ws : List Awaited) (os : List DecOut) :
    awaitedEvents (.error code :: ws) os = .error code :: awaitedEvents ws os := by cases os <;> rfl

@[simp] theorem transactions_cons_empty (ws : List Awaited) : transactions (.empty :: ws) = transactions ws := by
  simp [transactions]
@[simp] theorem transactions_cons_error (code : Nat) (ws : List Awaited) :
    transactions (.error code :: ws) = transactions ws := by simp [transactions]

/-- Results awaited later, and their transactions' results, come behind. -/
theorem awaitedEvents_append (ws us : List Awaited) (os ps : List DecOut) (h : transactions ws = os.length) :
    awaitedEvents (ws ++ us) (os ++ ps) = awaitedEvents ws os ++ awaitedEvents us ps := by
  induction ws generalizing os with
  | nil =>
    obtain rfl : os = [] := List.length_eq_zero_iff.1 h.symm
    simp
  | cons w ws ih =>
    cases w with
    | empty => simp [ih os (by simpa using h)]
    | error code => simp [ih os (by simpa using h)]
    | transaction =>
      cases os with
      | nil => simp at h
      | cons o os => simp [ih os (by simpa using h)]

/-- Forwarding the sentinels at the head takes their events from the front. -/
theorem leadingSentinels_append_awaitedEvents (ws : List Awaited) (os : List DecOut) :
    leadingSentinels ws ++ awaitedEvents (fromTransaction ws) os = awaitedEvents ws os := by
  induction ws with
  | nil => simp [leadingSentinels, fromTransaction]
  | cons w ws ih =>
    cases w with
    | transaction => rfl
    | empty => simpa [leadingSentinels, fromTransaction] using ih
    | error code => simpa [leadingSentinels, fromTransaction] using ih

/-- What the host reports is taken from the front of what it has still to report. -/
theorem report_reporter_append_awaitedEvents (s : State) (h : s.out.valid = true → s.awaiting.head? = some .transaction) :
    s.report.reporter ++ awaitedEvents s.report.awaiting s.inFlight = s.reporter ++ awaitedEvents s.awaiting s.results := by
  rw [results_eq_readOut_append]
  cases hout : s.readOut with
  | none => simp [State.report, reportFrame_of_none s hout, leadingSentinels_append_awaitedEvents]
  | some o =>
    have hv : s.out.valid = true := by rw [(readOut_eq_some s o).1 hout]
    obtain ⟨rest, hrest⟩ := List.head?_eq_some_iff.1 (h hv)
    simp [State.report, reportFrame_of_some s o hout, hrest, leadingSentinels_append_awaitedEvents]

theorem expectedEvents_cons (c : Cfg) (slot : Nat) (h : HostSlot) (rest : List HostSlot) :
    expectedEvents c slot (h :: rest) =
      (h.result.map (AdapterResult.event c slot)).toList ++ expectedEvents c (slot + 1) rest := by
  rw [expectedEvents]
  cases h.result <;> rfl

/-- What a slot makes the host await has the event of the adapter result that was presented. -/
theorem awaitedEvents_of_slot (s : State) (h : HostSlot) (rest : List HostSlot) (hs : s.script = h :: rest)
    (hr : s.present.pipeReset = false) :
    awaitedEvents (h.result.map awaitedOf).toList s.slotResult.result.toList =
      (h.result.map (AdapterResult.event s.cfg s.draws)).toList := by
  obtain ⟨rst, res⟩ := h
  rcases res with _ | (f | _ | code)
  · simp
  · simp [slotResult_of_frame s rst f rest hs hr, Stage.result, awaitedOf, AdapterResult.event]
  · simp [awaitedOf, AdapterResult.event]
  · simp [awaitedOf, AdapterResult.event]

/-! ### The observation of a run (R320) -/

/-- Every event of a run: those reported, those of the awaited results, and those of the script to come. -/
def State.observation (s : State) : List Event :=
  s.reporter ++ awaitedEvents s.awaiting s.inFlight ++ expectedEvents s.cfg s.draws s.script

/-- When the host is about to report, the slot's adapter result has gone from the script to what the host awaits. -/
theorem evaluated_awaitedEvents (s : State) (hs : s.Inv) (hr : s.present.pipeReset = false) :
    awaitedEvents s.evaluated.awaiting s.evaluated.results ++ expectedEvents s.cfg (s.draws + 1) s.script.tail =
      awaitedEvents s.awaiting s.inFlight ++ expectedEvents s.cfg s.draws s.script := by
  rw [evaluated_awaiting_of_no_reset s hr, evaluated_results s hs.pipe_length hr]
  cases hscript : s.script with
  | nil =>
    have haw : s.present.awaiting = s.awaiting ++ [] := by simp [present_nil s hscript]
    rw [haw, awaitedEvents_append _ _ _ _ hs.awaited]
    simp [expectedEvents]
  | cons h rest =>
    have haw : s.present.awaiting = s.awaiting ++ (h.result.map awaitedOf).toList := by simp [present_cons s h rest hscript]
    rw [haw, awaitedEvents_append _ _ _ _ hs.awaited, awaitedEvents_of_slot s h rest hscript hr, expectedEvents_cons,
      List.tail_cons, List.append_assoc]

/-- A slot without reset moves events towards the Reporter, and changes none of them. -/
theorem afterSlot_observation (s : State) (hs : s.Inv) (hr : s.present.pipeReset = false) :
    s.afterSlot.observation = s.observation := by
  have hreport := report_reporter_append_awaitedEvents s.evaluated (evaluated_head_of_out_valid s hs)
  simp only [State.observation, afterSlot_cfg, afterSlot_draws, afterSlot_script]
  rw [State.afterSlot, report_inFlight, hreport, evaluated_reporter, List.append_assoc, evaluated_awaitedEvents s hs hr,
    List.append_assoc]

/-- No reset acts in a slot of a script that asserts none. -/
theorem present_pipeReset_of_script (s : State) (h : ∀ g ∈ s.script, g.rst = false) : s.present.pipeReset = false :=
  present_pipeReset_of_rst_false s 0 fun g hg => h g (List.mem_of_mem_take hg)

theorem iterate_afterSlot_observation (n : Nat) (s : State) (hs : s.Inv) (hrst : ∀ g ∈ s.script, g.rst = false) :
    (State.afterSlot^[n] s).observation = s.observation := by
  induction n with
  | zero => rfl
  | succ n ih =>
    have hr : (State.afterSlot^[n] s).present.pipeReset = false := by
      apply present_pipeReset_of_script
      rw [iterate_afterSlot_script]
      exact fun g hg => hrst g (List.mem_of_mem_drop hg)
    rw [Function.iterate_succ_apply', afterSlot_observation _ (iterate_afterSlot_inv n s hs) hr, ih]

/-! ### After the script the pipeline runs empty -/

theorem slotResult_valid_of_script_nil (s : State) (h : s.script = []) : s.slotResult.valid = false := by
  simp [slotResult_valid, present_nil s h]

/-- Each idle slot after the script leaves one place more that holds no result. -/
theorem iterate_afterSlot_places (n : Nat) (s : State) (h : s.script = []) :
    ∀ g ∈ ((State.afterSlot^[n] s).datapath :: (State.afterSlot^[n] s).pipe).take n, g.valid = false := by
  induction n with
  | zero => simp
  | succ n ih =>
    have hscript : (State.afterSlot^[n] s).script = [] := by rw [iterate_afterSlot_script, h, List.drop_nil]
    rw [Function.iterate_succ_apply', afterSlot_datapath, afterSlot_pipe, List.take_succ_cons,
      evaluated_pipe_of_no_reset _ (present_pipeReset_nil _ hscript)]
    intro g hg
    rcases List.mem_cons.1 hg with rfl | hpipe
    · exact slotResult_valid_of_script_nil _ hscript
    · rw [List.take_take] at hpipe
      exact ih g (List.take_subset_take_left _ (Nat.min_le_left n _) hpipe)

/-- LATENCY idle slots after the script leave nothing in flight. -/
theorem iterate_afterSlot_inFlight (s : State) (hs : s.Inv) (h : s.script = []) :
    (State.afterSlot^[s.cfg.latency] s).inFlight = [] := by
  have hp := (iterate_afterSlot_inv s.cfg.latency s hs).pipe_length
  rw [iterate_afterSlot_cfg] at hp
  have hplaces := iterate_afterSlot_places s.cfg.latency s h
  rw [inFlight_eq, List.reverse_eq_nil_iff, List.filterMap_eq_nil_iff, List.dropLast_eq_take, List.length_cons, hp]
  exact fun g hg => g.result_of_invalid (hplaces g hg)

/-- After the script's slots and LATENCY more nothing is in flight. -/
theorem inFlight_after_script (s : State) (hs : s.Inv) :
    (State.afterSlot^[s.script.length + s.cfg.latency] s).inFlight = [] := by
  have hend : (State.afterSlot^[s.script.length] s).script = [] := by simp [iterate_afterSlot_script]
  rw [Nat.add_comm, Function.iterate_add_apply, ← iterate_afterSlot_cfg s.script.length s]
  exact iterate_afterSlot_inFlight _ (iterate_afterSlot_inv _ s hs) hend

/-- A host that awaits no transaction awaits nothing: no sentinel is held back (log 13). -/
theorem awaiting_eq_nil_of_inFlight_eq_nil (s : State) (hs : s.Inv) (h : s.inFlight = []) : s.awaiting = [] := by
  have haw : transactions s.awaiting = s.inFlight.length := hs.awaited
  rcases hs.settled with hnone | hsome
  · exact List.head?_eq_none_iff.1 hnone
  · obtain ⟨rest, hrest⟩ := List.head?_eq_some_iff.1 hsome
    simp [hrest, h] at haw

/-- Settles O9: every slot keeps the observation, and after the script's slots and LATENCY more it is all reported. -/
theorem runReportsEveryResultInOrder : Obligations.RunReportsEveryResultInOrder := by
  intro s hs haw hrst
  have hinv := iterate_afterSlot_inv (s.script.length + s.cfg.latency) s hs
  have hobs := iterate_afterSlot_observation (s.script.length + s.cfg.latency) s hs hrst
  have hscript : (State.afterSlot^[s.script.length + s.cfg.latency] s).script = [] := by
    simp [iterate_afterSlot_script]
  have hawait := awaiting_eq_nil_of_inFlight_eq_nil _ hinv (inFlight_after_script s hs)
  refine ⟨_, run_eq_iterate _ s, ?_, hawait, hscript⟩
  simpa [State.observation, hawait, hscript, haw, expectedEvents] using hobs

/-! ### Degraded and remote (R304) -/

/-- Settles O36: DATA_RR is the remote flag (R200), and a degraded DLC has length 0 (R161), which enables no byte. -/
theorem degradedRemoteFrameShowsBoth : Obligations.DegradedRemoteFrameShowsBoth := by
  intro c r hdlc hrtr
  have hlen : (decodeFrame c r).len = 0 := dlcLen_of_degraded r.dlc.bits hdlc
  have hen : (decodeFrame c r).byteEn = byteEn (rtrOf c r) (decodeFrame c r).len := rfl
  exact ⟨hrtr, hlen, by rw [hen, hlen, byteEn_zero]⟩

end Sys2Proof.Machine
end

section
/-! PROOFS of spec/70_reset_and_hazards.md: a reset discards what is in the pipeline (R340, R342), and is not seen without one. -/

namespace Sys2Proof.Machine

/-! ### Reset with LATENCY > 0 -/

theorem valid_eq_false_of_validPlaces_eq_zero (s : State) (h : s.validPlaces = 0) :
    ∀ g ∈ s.datapath :: s.pipe, g.valid = false := by
  simpa [State.validPlaces, List.countP_eq_zero] using h

theorem transactions_eq_zero_iff (ws : List Awaited) : transactions ws = 0 ↔ .transaction ∉ ws := by
  rw [transactions, List.length_eq_zero_iff, List.filter_eq_nil_iff]
  simp [List.forall_mem_ne']

theorem frame_notMem_leadingSentinels (ws : List Awaited) (o : DecOut) : .frame o ∉ leadingSentinels ws := by
  induction ws with
  | nil => simp [leadingSentinels]
  | cons w ws ih => cases w <;> simp [leadingSentinels, ih]

/-- Settles O10: no place is valid, so the host reports no frame, only sentinels. -/
theorem pipelineResetDiscardsEveryTransaction : Obligations.PipelineResetDiscardsEveryTransaction := by
  intro s res rest hlat hs
  have hr : s.present.pipeReset = true := by simp [present_pipeReset s _ rest hs, hlat]
  have hinvalid := valid_eq_false_of_validPlaces_eq_zero _ (evaluated_validPlaces_of_reset s hr)
  have hout : s.evaluated.readOut = none := (readOut_eq_none _).2 (hinvalid _ (out_mem _))
  have hawaiting : s.evaluated.report.awaiting = fromTransaction s.evaluated.awaiting := by
    simp [State.report, reportFrame_of_none _ hout]
  refine ⟨_, step_eq_evaluated s, ?_, ?_, ?_, ?_, leadingSentinels s.evaluated.awaiting, ?_, ?_⟩
  · simpa only [report_datapath, report_pipe] using hinvalid
  · simp [evaluated_pipe_of_reset s hr]
  · rw [report_readOut, hout]
  · rw [hawaiting, ← transactions_eq_zero_iff, transactions_fromTransaction, evaluated_awaiting_of_reset s hr,
      transactions_forgotten]
  · rw [report_reporter_of_none _ hout, evaluated_reporter]
  · exact frame_notMem_leadingSentinels _

/-! ### Reset with LATENCY = 0 -/

/-- The host's report does not read the reset line. -/
theorem report_with_rst (s : State) (b : Bool) : ({ s with rst := b } : State).report = { s.report with rst := b } := by
  have hout : ({ s with rst := b } : State).readOut = s.readOut := rfl
  cases h : s.readOut with
  | none =>
    rw [State.report, State.report, reportFrame_of_none _ h, reportFrame_of_none _ (hout.trans h)]
    rfl
  | some o =>
    rw [State.report, State.report, reportFrame_of_some _ o h, reportFrame_of_some _ o (hout.trans h)]
    rfl

theorem slotResult_of_no_reset (s : State) (h : s.present.pipeReset = false) :
    s.slotResult = if s.present.inp.valid then ⟨true, decodeFrame s.cfg s.present.inp.raw⟩ else bubble s.draws 0 := by
  rw [State.slotResult, h]
  cases s.present.inp.valid <;> rfl

theorem evaluated_of_no_reset (s : State) (h : s.present.pipeReset = false) :
    s.evaluated = { s.present.shift with datapath := s.slotResult } := by
  rw [State.evaluated, State.slotStart, clock_of_no_reset _ h]

/-- Where no pipeline reset acts, the reset line's level is all that the slot keeps of it. -/
theorem evaluated_with_rst (s : State) (res : Option AdapterResult) (rest : List HostSlot) (hlat : s.cfg.latency = 0) :
    ({ s with script := ⟨true, res⟩ :: rest } : State).evaluated =
      { ({ s with script := ⟨false, res⟩ :: rest } : State).evaluated with rst := true } := by
  have hr (b : Bool) : ({ s with script := ⟨b, res⟩ :: rest } : State).present.pipeReset = false :=
    pipeReset_of_latency_zero _ (by simpa using hlat)
  rw [evaluated_of_no_reset _ (hr true), evaluated_of_no_reset _ (hr false), slotResult_of_no_reset _ (hr true),
    slotResult_of_no_reset _ (hr false)]
  rfl

/-- Settles O11: the slots end alike but for the reset line, and so do their reports. -/
theorem resetHasNoEffectAtLatencyZero : Obligations.ResetHasNoEffectAtLatencyZero := by
  intro s res rest hlat
  refine ⟨_, step_eq_evaluated _, ?_⟩
  rw [step_eq_evaluated, evaluated_with_rst s res rest hlat, report_with_rst]

end Sys2Proof.Machine
end
